-- ==== Sys2Proof/Word.lean ====
section
/-! DEFINITION. The word types of the block (00_scope.md R12, R13; 20_memory.md R200). -/

namespace Sys2Proof

/-- A byte: the unit of every access the block makes or answers (R205). -/
abbrev Byte := BitVec 8

/-- A 16-bit video or CPU address (VA_BITS = CPU_A_BITS = 16, R9), and a transaction header word (R300). -/
abbrev Half := BitVec 16

/-- A 32-bit operand word (R304). -/
abbrev Word32 := BitVec 32

/-- ONE, one domain cycle in accumulator units: 2^32 (R9, FRAC = 32). -/
def one : Int := 4294967296

end Sys2Proof
end

