-- ==== Sys2Proof/Config.lean ====
section
/-! DEFINITION. The construction parameters of 00_scope.md R9 with their legal values (R10, R11), and the one
free value the model draws: what a collaborator's port answers. -/

namespace Sys2Proof

/-- The construction parameters of R9. The three clock frequencies, MEM_MODE and NWAIT are not here: CONFIGURE
sets them. The parameters are part of State, so that a statement about every state holds for every machine. -/
structure Params where
  /-- NSLOT, slots per line. -/
  nslot : Nat
  /-- LAST_FETCH_SLOT, the last slot that reads video memory. -/
  lastFetchSlot : Nat
  /-- PORT_BASE, the I/O port of the block's offset 0. -/
  portBase : Byte
  /-- PAGE_SHIFT, log2 of the page size. -/
  pageShift : Nat
  /-- CONTENDED, as the list of the contended segment numbers. -/
  contended : List Byte
  /-- PHASE_STEPS, the resolution of the slot phase. -/
  phaseSteps : Nat
  /-- CONT[0], the waits of a fetch, by phase step. -/
  contFetch : List Byte
  /-- CONT[1], the waits of a data access. -/
  contData : List Byte
  /-- CONT[2], the waits of an I/O access. -/
  contIo : List Byte
  /-- AMP_TABLE, the amplitudes of the sixteen levels. -/
  ampTable : List Nat
  /-- DAC_GAIN, the amplitude of one DAC level step. -/
  dacGain : Nat
  /-- TIMER_HALF, sound ticks per half period of the periodic timer. -/
  timerHalf : Nat
  /-- OBSERVERS, the host's callbacks in registration order, each known by a number. -/
  observers : List Nat
deriving DecidableEq, Repr

/-- The contention order of R11: at every phase step the fetch wait is the longest and the I/O wait the shortest. -/
abbrev Params.contOrdered (p : Params) : Prop :=
  ∀ f, f < p.phaseSteps →
    (p.contIo.getD f 0).toNat ≤ (p.contData.getD f 0).toNat ∧
    (p.contData.getD f 0).toNat ≤ (p.contFetch.getD f 0).toNat

/-- The amplitude headroom of R10. -/
abbrev Params.headroom (p : Params) : Prop :=
  (∀ a ∈ p.ampTable, 3 * a ≤ 65535) ∧ 3 * (63 * p.dacGain) ≤ 65535

/-- The legal values of R9, R10 and R11, which construction checks (40_scheduler.md R401). -/
abbrev Params.legal (p : Params) : Prop :=
  (9 ≤ p.nslot ∧ p.nslot ≤ 64) ∧
  (8 ≤ p.lastFetchSlot ∧ p.lastFetchSlot < p.nslot) ∧
  p.portBase.toNat % 32 = 0 ∧
  (1 ≤ p.pageShift ∧ p.pageShift ≤ 16) ∧
  (1 ≤ p.phaseSteps ∧ p.phaseSteps ≤ 256) ∧
  (p.contFetch.length = p.phaseSteps ∧ p.contData.length = p.phaseSteps ∧ p.contIo.length = p.phaseSteps) ∧
  p.contOrdered ∧
  (p.ampTable.length = 16 ∧ p.ampTable.getD 0 0 = 0) ∧
  p.headroom ∧
  1 ≤ p.timerHalf

/-- The test parameter set TP of 95_test_vectors.md section 1: NSLOT and PAGE_SHIFT are the defaults of R9, and
the OPEN parameters have the values the spec chose for its tests only.
DESIGN CHOICE (log 2): the machine that State.reset stands for has these parameters. -/
def Config.testParams : Params where
  nslot := 57
  lastFetchSlot := 56
  portBase := 0x80
  pageShift := 14
  contended := [0xFC, 0xFD, 0xFE, 0xFF]
  phaseSteps := 4
  contFetch := [3, 2, 1, 0]
  contData := [2, 1, 1, 0]
  contIo := [2, 1, 0, 0]
  ampTable := [0, 100, 200, 300, 400, 500, 600, 700, 800, 900, 1000, 1100, 1200, 1300, 1400, 1500]
  dacGain := 10
  timerHalf := 3
  observers := []

/-- Free value (DESIGN CHOICE, log 6): the byte the collaborator's `read_io` answers to the n-th read of a port outside the
block's window (00_scope.md R31, 40_scheduler.md R408). It has no body, so nothing can be proved of it. -/
opaque Config.ioRead : Nat → Byte → Byte

end Sys2Proof
end

