-- ==== Sys2Proof/Syntax.lean ====
section
/-! DEFINITION. The syntax of what the block is given: the transactions of the opcode table (30_encoding.md R300 to
R304, R310) with the 44 renderers of its second table (R340), the packets they arrive in, the CPU agent's events
(40_scheduler.md R405), and the collaborator's changes of memory and page map (00_scope.md R31). -/

namespace Sys2Proof

/-- The 44 renderers of 43_video_renderers.md R600, one per RKEY row of the opcode table. -/
inductive Renderer where
  | border    -- BORDER, R620
  | sync    -- SYNC, R621
  | invalid    -- INVALID, R622
  | attrib    -- ATTRIBUTE, R623
  | pixel_2c    -- PIXEL_2C, R624
  | pixel_2c_msb    -- PIXEL_2C_MSB, R625
  | pixel_2c_lsb    -- PIXEL_2C_LSB, R626
  | pixel_2c_lsb_msb    -- PIXEL_2C_LSB_MSB, R627
  | pixel_4c    -- PIXEL_4C, R628
  | pixel_4c_lsb    -- PIXEL_4C_LSB, R629
  | pixel_16c    -- PIXEL_16C, R630
  | pixel_256c    -- PIXEL_256C, R631
  | lpixel_2c    -- LPIXEL_2C, R632
  | lpixel_2c_msb    -- LPIXEL_2C_MSB, R633
  | lpixel_2c_lsb    -- LPIXEL_2C_LSB, R634
  | lpixel_2c_lsb_msb    -- LPIXEL_2C_LSB_MSB, R635
  | lpixel_4c    -- LPIXEL_4C, R636
  | lpixel_4c_lsb    -- LPIXEL_4C_LSB, R637
  | lpixel_16c    -- LPIXEL_16C, R638
  | lpixel_256c    -- LPIXEL_256C, R639
  | ch256_2c    -- CH256_2C, R640
  | ch256_2c_a0    -- CH256_2C_A0, R641
  | ch256_2c_a1    -- CH256_2C_A1, R642
  | ch256_2c_a0_a1    -- CH256_2C_A0_A1, R643
  | ch256_4c    -- CH256_4C, R644
  | ch256_4c_a1    -- CH256_4C_A1, R645
  | ch256_16c    -- CH256_16C, R646
  | ch256_256c    -- CH256_256C, R647
  | ch128_2c    -- CH128_2C, R648
  | ch128_2c_a0    -- CH128_2C_A0, R649
  | ch128_2c_a1    -- CH128_2C_A1, R650
  | ch128_2c_a0_a1    -- CH128_2C_A0_A1, R651
  | ch128_4c    -- CH128_4C, R652
  | ch128_4c_a1    -- CH128_4C_A1, R653
  | ch128_16c    -- CH128_16C, R654
  | ch128_256c    -- CH128_256C, R655
  | ch64_2c    -- CH64_2C, R656
  | ch64_2c_a0    -- CH64_2C_A0, R657
  | ch64_2c_a1    -- CH64_2C_A1, R658
  | ch64_2c_a0_a1    -- CH64_2C_A0_A1, R659
  | ch64_4c    -- CH64_4C, R660
  | ch64_4c_a1    -- CH64_4C_A1, R661
  | ch64_16c    -- CH64_16C, R662
  | ch64_256c    -- CH64_256C, R663
deriving DecidableEq, Repr

/-- One constructor per row of the opcode table. The bits a row marks as ignored are no operands. -/
inductive Instr where
  | pwSndR0 (data : Byte)    -- PW_SND_R0, R700
  | prSndR0    -- PR_SND_R0, R716
  | pwSndR1 (data : Byte)    -- PW_SND_R1, R701
  | prSndR1    -- PR_SND_R1, R716
  | pwSndR2 (data : Byte)    -- PW_SND_R2, R702
  | prSndR2    -- PR_SND_R2, R716
  | pwSndR3 (data : Byte)    -- PW_SND_R3, R703
  | prSndR3    -- PR_SND_R3, R716
  | pwSndR4 (data : Byte)    -- PW_SND_R4, R704
  | prSndR4    -- PR_SND_R4, R716
  | pwSndR5 (data : Byte)    -- PW_SND_R5, R705
  | prSndR5    -- PR_SND_R5, R716
  | pwSndR6 (data : Byte)    -- PW_SND_R6, R706
  | prSndR6    -- PR_SND_R6, R716
  | pwSndR7 (data : Byte)    -- PW_SND_R7, R707
  | prSndR7    -- PR_SND_R7, R716
  | pwSndR8 (data : Byte)    -- PW_SND_R8, R708
  | prSndR8    -- PR_SND_R8, R716
  | pwSndR9 (data : Byte)    -- PW_SND_R9, R709
  | prSndR9    -- PR_SND_R9, R716
  | pwSndR10 (data : Byte)    -- PW_SND_R10, R710
  | prSndR10    -- PR_SND_R10, R716
  | pwSndR11 (data : Byte)    -- PW_SND_R11, R711
  | prSndR11    -- PR_SND_R11, R716
  | pwSndR12 (data : Byte)    -- PW_SND_R12, R712
  | prSndR12    -- PR_SND_R12, R716
  | pwSndR13 (data : Byte)    -- PW_SND_R13, R713
  | prSndR13    -- PR_SND_R13, R716
  | pwSndR14 (data : Byte)    -- PW_SND_R14, R714
  | prSndR14    -- PR_SND_R14, R716
  | pwSndR15 (data : Byte)    -- PW_SND_R15, R715
  | prSndR15    -- PR_SND_R15, R716
  | pwIntCtrl (data : Byte)    -- PW_INT_CTRL, R810
  | prIntStatus    -- PR_INT_STATUS, R811
  | pwReserved11 (data : Byte)    -- PW_RESERVED_11, R361
  | prReserved11    -- PR_RESERVED_11, R361
  | pwReserved12 (data : Byte)    -- PW_RESERVED_12, R361
  | prReserved12    -- PR_RESERVED_12, R361
  | pwReserved13 (data : Byte)    -- PW_RESERVED_13, R361
  | prReserved13    -- PR_RESERVED_13, R361
  | pwReserved14 (data : Byte)    -- PW_RESERVED_14, R361
  | prReserved14    -- PR_RESERVED_14, R361
  | pwReserved15 (data : Byte)    -- PW_RESERVED_15, R361
  | prReserved15    -- PR_RESERVED_15, R361
  | pwReserved16 (data : Byte)    -- PW_RESERVED_16, R361
  | prReserved16    -- PR_RESERVED_16, R361
  | pwReserved17 (data : Byte)    -- PW_RESERVED_17, R361
  | prReserved17    -- PR_RESERVED_17, R361
  | pwFixbias (data : Byte)    -- PW_FIXBIAS, R550
  | prFixbias    -- PR_FIXBIAS, R550
  | pwBorder (data : Byte)    -- PW_BORDER, R551
  | prBorder    -- PR_BORDER, R551
  | pwLptLo (data : Byte)    -- PW_LPT_LO, R552
  | prLptLo    -- PR_LPT_LO, R552
  | pwLptHi (data : Byte)    -- PW_LPT_HI, R553
  | prLptHi    -- PR_LPT_HI, R553
  | pwReserved1C (data : Byte)    -- PW_RESERVED_1C, R361
  | prReserved1C    -- PR_RESERVED_1C, R361
  | pwReserved1D (data : Byte)    -- PW_RESERVED_1D, R361
  | prReserved1D    -- PR_RESERVED_1D, R361
  | pwReserved1E (data : Byte)    -- PW_RESERVED_1E, R361
  | prReserved1E    -- PR_RESERVED_1E, R361
  | pwReserved1F (data : Byte)    -- PW_RESERVED_1F, R361
  | prReserved1F    -- PR_RESERVED_1F, R361
  | slotStep    -- SLOT_STEP, R402
  | soundTick    -- SOUND_TICK, R730
  | videoSlot    -- VIDEO_SLOT, R500
  | cpuCycles (n : Byte)    -- CPU_CYCLES, R406
  | cpuMemFetch (a : Half)    -- CPU_MEM_FETCH, R406
  | cpuMemRead (a : Half)    -- CPU_MEM_READ, R406
  | cpuMemWrite (a : Half)    -- CPU_MEM_WRITE, R406
  | cpuIoRead (port : Byte)    -- CPU_IO_READ, R407
  | cpuIoWrite (port data : Byte)    -- CPU_IO_WRITE, R407
  | cpuEnd    -- CPU_END, R409
  | ext2 (level : Bool)    -- EXT2, R805
  | configure (memMode : Byte) (fCpu fSlot fSnd : Word32) (nwait : Byte)    -- CONFIGURE, R400
  | snapshotSaveVideo    -- SNAPSHOT_SAVE_VIDEO, R860
  | snapshotSaveSound    -- SNAPSHOT_SAVE_SOUND, R860
  | snapshotSaveInt    -- SNAPSHOT_SAVE_INT, R860
  | snapshotLoadVideo (d : List Byte)    -- SNAPSHOT_LOAD_VIDEO, R861
  | snapshotLoadSound (d : List Byte)    -- SNAPSHOT_LOAD_SOUND, R861
  | snapshotLoadInt (d : List Byte)    -- SNAPSHOT_LOAD_INT, R861
  | reset    -- RESET, R1000
  | waitQueryFetch (a : Half)    -- WAIT_QUERY_FETCH, R458
  | waitQueryRead (a : Half)    -- WAIT_QUERY_READ, R458
  | waitQueryWrite (a : Half)    -- WAIT_QUERY_WRITE, R458
  | waitQueryIo (port : Byte)    -- WAIT_QUERY_IO, R458
  | border    -- BORDER, R620
  | sync    -- SYNC, R621
  | invalid    -- INVALID, R622
  | attrib    -- ATTRIBUTE, R623
  | pixel_2c    -- PIXEL_2C, R624
  | pixel_2c_msb    -- PIXEL_2C_MSB, R625
  | pixel_2c_lsb    -- PIXEL_2C_LSB, R626
  | pixel_2c_lsb_msb    -- PIXEL_2C_LSB_MSB, R627
  | pixel_4c    -- PIXEL_4C, R628
  | pixel_4c_lsb    -- PIXEL_4C_LSB, R629
  | pixel_16c    -- PIXEL_16C, R630
  | pixel_256c    -- PIXEL_256C, R631
  | lpixel_2c    -- LPIXEL_2C, R632
  | lpixel_2c_msb    -- LPIXEL_2C_MSB, R633
  | lpixel_2c_lsb    -- LPIXEL_2C_LSB, R634
  | lpixel_2c_lsb_msb    -- LPIXEL_2C_LSB_MSB, R635
  | lpixel_4c    -- LPIXEL_4C, R636
  | lpixel_4c_lsb    -- LPIXEL_4C_LSB, R637
  | lpixel_16c    -- LPIXEL_16C, R638
  | lpixel_256c    -- LPIXEL_256C, R639
  | ch256_2c    -- CH256_2C, R640
  | ch256_2c_a0    -- CH256_2C_A0, R641
  | ch256_2c_a1    -- CH256_2C_A1, R642
  | ch256_2c_a0_a1    -- CH256_2C_A0_A1, R643
  | ch256_4c    -- CH256_4C, R644
  | ch256_4c_a1    -- CH256_4C_A1, R645
  | ch256_16c    -- CH256_16C, R646
  | ch256_256c    -- CH256_256C, R647
  | ch128_2c    -- CH128_2C, R648
  | ch128_2c_a0    -- CH128_2C_A0, R649
  | ch128_2c_a1    -- CH128_2C_A1, R650
  | ch128_2c_a0_a1    -- CH128_2C_A0_A1, R651
  | ch128_4c    -- CH128_4C, R652
  | ch128_4c_a1    -- CH128_4C_A1, R653
  | ch128_16c    -- CH128_16C, R654
  | ch128_256c    -- CH128_256C, R655
  | ch64_2c    -- CH64_2C, R656
  | ch64_2c_a0    -- CH64_2C_A0, R657
  | ch64_2c_a1    -- CH64_2C_A1, R658
  | ch64_2c_a0_a1    -- CH64_2C_A0_A1, R659
  | ch64_4c    -- CH64_4C, R660
  | ch64_4c_a1    -- CH64_4C_A1, R661
  | ch64_16c    -- CH64_16C, R662
  | ch64_256c    -- CH64_256C, R663
deriving DecidableEq, Repr

/-- The constructor of Instr that stands for a renderer's row. -/
def Renderer.instr : Renderer → Instr
  | .border => .border
  | .sync => .sync
  | .invalid => .invalid
  | .attrib => .attrib
  | .pixel_2c => .pixel_2c
  | .pixel_2c_msb => .pixel_2c_msb
  | .pixel_2c_lsb => .pixel_2c_lsb
  | .pixel_2c_lsb_msb => .pixel_2c_lsb_msb
  | .pixel_4c => .pixel_4c
  | .pixel_4c_lsb => .pixel_4c_lsb
  | .pixel_16c => .pixel_16c
  | .pixel_256c => .pixel_256c
  | .lpixel_2c => .lpixel_2c
  | .lpixel_2c_msb => .lpixel_2c_msb
  | .lpixel_2c_lsb => .lpixel_2c_lsb
  | .lpixel_2c_lsb_msb => .lpixel_2c_lsb_msb
  | .lpixel_4c => .lpixel_4c
  | .lpixel_4c_lsb => .lpixel_4c_lsb
  | .lpixel_16c => .lpixel_16c
  | .lpixel_256c => .lpixel_256c
  | .ch256_2c => .ch256_2c
  | .ch256_2c_a0 => .ch256_2c_a0
  | .ch256_2c_a1 => .ch256_2c_a1
  | .ch256_2c_a0_a1 => .ch256_2c_a0_a1
  | .ch256_4c => .ch256_4c
  | .ch256_4c_a1 => .ch256_4c_a1
  | .ch256_16c => .ch256_16c
  | .ch256_256c => .ch256_256c
  | .ch128_2c => .ch128_2c
  | .ch128_2c_a0 => .ch128_2c_a0
  | .ch128_2c_a1 => .ch128_2c_a1
  | .ch128_2c_a0_a1 => .ch128_2c_a0_a1
  | .ch128_4c => .ch128_4c
  | .ch128_4c_a1 => .ch128_4c_a1
  | .ch128_16c => .ch128_16c
  | .ch128_256c => .ch128_256c
  | .ch64_2c => .ch64_2c
  | .ch64_2c_a0 => .ch64_2c_a0
  | .ch64_2c_a1 => .ch64_2c_a1
  | .ch64_2c_a0_a1 => .ch64_2c_a0_a1
  | .ch64_4c => .ch64_4c
  | .ch64_4c_a1 => .ch64_4c_a1
  | .ch64_16c => .ch64_16c
  | .ch64_256c => .ch64_256c

/-- A transaction as its issuer hands it over: the header word, the operand words (given as numbers, so they have
no byte order, R304), and the byte stream of SNAPSHOT_LOAD. -/
structure Packet where
  header : Half
  words : List Word32
  bytes : List Byte
deriving DecidableEq, Repr

/-- What the decoder reads: a packet, through the header table (R300), or a render key, through the RKEY table
(R340). The two tables number their words independently. -/
inductive Source where
  | packet (p : Packet)
  | key (k : BitVec 10)
deriving DecidableEq, Repr

/-- Why a packet is no transaction (30_encoding.md R360, R304). -/
inductive DecodeError where
  /-- H[15:14] = 0b11 (X1). -/
  | reservedClass
  /-- PW or PR with H[13] = 1 (X2). -/
  | reservedBit13
  /-- An OP opcode of 0x0D..0x3F (X3). -/
  | reservedOpcode
  /-- CPU_MEM with kind 3 (X4). -/
  | reservedKind
  /-- CONFIGURE with a bit above 7 of the NWAIT word set (X5). -/
  | nwaitHighBits
  /-- SNAPSHOT_SAVE or SNAPSHOT_LOAD with subsystem 3..255 (X7). -/
  | reservedSubsystem
  /-- Not the operand words or bytes that the header fixes (R304; DESIGN CHOICE, log 8). -/
  | wrongLength
deriving DecidableEq, Repr

/-- One event the CPU agent supplies through CpuNext (40_scheduler.md R405). kind 3 is reserved (R360). -/
inductive CpuEvent where
  | cycles (n : Byte)
  | mem (kind : BitVec 2) (a : Half)
  | io (write : Bool) (port data : Byte)
  | fin
deriving DecidableEq, Repr

/-- A change the collaborator makes to what it owns (00_scope.md R8, R31): its `write_memory` of one byte, seen
at a video address, or a new segment for a page of its page-to-segment table. -/
inductive Collab where
  | poke (a : Half) (v : Byte)
  | mapPage (page : Half) (seg : Byte)
deriving DecidableEq, Repr

/-- The CPU agent's input, in the order it happens: an event for the block, or a change the CPU made through the
collaborator between two events (20_memory.md R209). -/
inductive CpuInput where
  | event (e : CpuEvent)
  | collab (c : Collab)
deriving DecidableEq, Repr

/-- The host's input, in the order it happens: a transaction, one run of a renderer by its key (DESIGN CHOICE, log 3), or
a change the host made through the collaborator (70_reset_and_hazards.md R1003 step 4). -/
inductive HostInput where
  | issue (x : Source)
  | collab (c : Collab)
deriving DecidableEq, Repr

/-- The transaction lines of the assembler (30_encoding.md R363), with their operands as numbers. A MEM line's kind is
0 for MEM.F, 1 for MEM.R, 2 for MEM.W. -/
inductive AsmLine where
  | pw (off : BitVec 5) (data : Byte)
  | pr (off : BitVec 5)
  | slot
  | tick
  | vslot
  | cyc (n : Byte)
  | mem (kind : BitVec 2) (a : Half)
  | ioR (port : Byte)
  | ioW (port data : Byte)
  | fin
  | ext2 (level : Bool)
  | config (mode : Byte) (fCpu fSlot fSnd : Word32) (nwait : Byte)
  | save (sub : Byte)
  | load (sub : Byte) (bytes : List Byte)
  | reset
  | waitq (kind : BitVec 2) (a : Half)
deriving DecidableEq, Repr

/-- The pseudo-transactions of the assembler (30_encoding.md R364). -/
inductive PseudoLine where
  | snd (r : BitVec 4) (v : Byte)
  | tone (c : Fin 3) (f : BitVec 12)
  | intc (v : Byte)
  | border (v : Byte)
  | fixbias (v : Byte)
  | lpt (a : Half)
  | run (n : Nat)
  | instr (n : Byte)
deriving DecidableEq, Repr

end Sys2Proof
end

