-- ==== Sys2Proof/WellFormed.lean ====
section
/-! DEFINITION. When a term of Instr is a transaction the encoding can express. -/

namespace Sys2Proof

/-- The byte stream of a SNAPSHOT_LOAD has its length in one 32-bit word (30_encoding.md R304). -/
def loadFits (d : List Byte) : Bool := decide (d.length < 4294967296)

/-- The well-formed instructions: those an encoding exists for. Every operand but the stream of a SNAPSHOT_LOAD
has exactly the width of its field, so that is the one check. -/
def wellFormed (i : Instr) : Bool :=
  match i with
  | .pwSndR0 _ => true
  | .prSndR0 => true
  | .pwSndR1 _ => true
  | .prSndR1 => true
  | .pwSndR2 _ => true
  | .prSndR2 => true
  | .pwSndR3 _ => true
  | .prSndR3 => true
  | .pwSndR4 _ => true
  | .prSndR4 => true
  | .pwSndR5 _ => true
  | .prSndR5 => true
  | .pwSndR6 _ => true
  | .prSndR6 => true
  | .pwSndR7 _ => true
  | .prSndR7 => true
  | .pwSndR8 _ => true
  | .prSndR8 => true
  | .pwSndR9 _ => true
  | .prSndR9 => true
  | .pwSndR10 _ => true
  | .prSndR10 => true
  | .pwSndR11 _ => true
  | .prSndR11 => true
  | .pwSndR12 _ => true
  | .prSndR12 => true
  | .pwSndR13 _ => true
  | .prSndR13 => true
  | .pwSndR14 _ => true
  | .prSndR14 => true
  | .pwSndR15 _ => true
  | .prSndR15 => true
  | .pwIntCtrl _ => true
  | .prIntStatus => true
  | .pwReserved11 _ => true
  | .prReserved11 => true
  | .pwReserved12 _ => true
  | .prReserved12 => true
  | .pwReserved13 _ => true
  | .prReserved13 => true
  | .pwReserved14 _ => true
  | .prReserved14 => true
  | .pwReserved15 _ => true
  | .prReserved15 => true
  | .pwReserved16 _ => true
  | .prReserved16 => true
  | .pwReserved17 _ => true
  | .prReserved17 => true
  | .pwFixbias _ => true
  | .prFixbias => true
  | .pwBorder _ => true
  | .prBorder => true
  | .pwLptLo _ => true
  | .prLptLo => true
  | .pwLptHi _ => true
  | .prLptHi => true
  | .pwReserved1C _ => true
  | .prReserved1C => true
  | .pwReserved1D _ => true
  | .prReserved1D => true
  | .pwReserved1E _ => true
  | .prReserved1E => true
  | .pwReserved1F _ => true
  | .prReserved1F => true
  | .slotStep => true
  | .soundTick => true
  | .videoSlot => true
  | .cpuCycles _ => true
  | .cpuMemFetch _ => true
  | .cpuMemRead _ => true
  | .cpuMemWrite _ => true
  | .cpuIoRead _ => true
  | .cpuIoWrite _ _ => true
  | .cpuEnd => true
  | .ext2 _ => true
  | .configure _ _ _ _ _ => true
  | .snapshotSaveVideo => true
  | .snapshotSaveSound => true
  | .snapshotSaveInt => true
  | .snapshotLoadVideo d => loadFits d
  | .snapshotLoadSound d => loadFits d
  | .snapshotLoadInt d => loadFits d
  | .reset => true
  | .waitQueryFetch _ => true
  | .waitQueryRead _ => true
  | .waitQueryWrite _ => true
  | .waitQueryIo _ => true
  | .border => true
  | .sync => true
  | .invalid => true
  | .attrib => true
  | .pixel_2c => true
  | .pixel_2c_msb => true
  | .pixel_2c_lsb => true
  | .pixel_2c_lsb_msb => true
  | .pixel_4c => true
  | .pixel_4c_lsb => true
  | .pixel_16c => true
  | .pixel_256c => true
  | .lpixel_2c => true
  | .lpixel_2c_msb => true
  | .lpixel_2c_lsb => true
  | .lpixel_2c_lsb_msb => true
  | .lpixel_4c => true
  | .lpixel_4c_lsb => true
  | .lpixel_16c => true
  | .lpixel_256c => true
  | .ch256_2c => true
  | .ch256_2c_a0 => true
  | .ch256_2c_a1 => true
  | .ch256_2c_a0_a1 => true
  | .ch256_4c => true
  | .ch256_4c_a1 => true
  | .ch256_16c => true
  | .ch256_256c => true
  | .ch128_2c => true
  | .ch128_2c_a0 => true
  | .ch128_2c_a1 => true
  | .ch128_2c_a0_a1 => true
  | .ch128_4c => true
  | .ch128_4c_a1 => true
  | .ch128_16c => true
  | .ch128_256c => true
  | .ch64_2c => true
  | .ch64_2c_a0 => true
  | .ch64_2c_a1 => true
  | .ch64_2c_a0_a1 => true
  | .ch64_4c => true
  | .ch64_4c_a1 => true
  | .ch64_16c => true
  | .ch64_256c => true

end Sys2Proof
end

