-- ==== Sys2Proof/Decode.lean ====
section
/-! DEFINITION. The decoder of 30_encoding.md: the header table (R300 to R304, R310), the render-key table (R340,
R600), and after them the encoder, written from the same tables. -/

namespace Sys2Proof

/-- PW: the register or reserved port an offset of R310 names, with the data byte. -/
def portWriteInstr (off : BitVec 5) (data : Byte) : Instr :=
  match off.toNat with
  | 0 => .pwSndR0 data
  | 1 => .pwSndR1 data
  | 2 => .pwSndR2 data
  | 3 => .pwSndR3 data
  | 4 => .pwSndR4 data
  | 5 => .pwSndR5 data
  | 6 => .pwSndR6 data
  | 7 => .pwSndR7 data
  | 8 => .pwSndR8 data
  | 9 => .pwSndR9 data
  | 10 => .pwSndR10 data
  | 11 => .pwSndR11 data
  | 12 => .pwSndR12 data
  | 13 => .pwSndR13 data
  | 14 => .pwSndR14 data
  | 15 => .pwSndR15 data
  | 16 => .pwIntCtrl data
  | 17 => .pwReserved11 data
  | 18 => .pwReserved12 data
  | 19 => .pwReserved13 data
  | 20 => .pwReserved14 data
  | 21 => .pwReserved15 data
  | 22 => .pwReserved16 data
  | 23 => .pwReserved17 data
  | 24 => .pwFixbias data
  | 25 => .pwBorder data
  | 26 => .pwLptLo data
  | 27 => .pwLptHi data
  | 28 => .pwReserved1C data
  | 29 => .pwReserved1D data
  | 30 => .pwReserved1E data
  | _ => .pwReserved1F data

/-- PR: the register or reserved port an offset of R310 names. The data byte of the header is ignored. -/
def portReadInstr (off : BitVec 5) : Instr :=
  match off.toNat with
  | 0 => .prSndR0
  | 1 => .prSndR1
  | 2 => .prSndR2
  | 3 => .prSndR3
  | 4 => .prSndR4
  | 5 => .prSndR5
  | 6 => .prSndR6
  | 7 => .prSndR7
  | 8 => .prSndR8
  | 9 => .prSndR9
  | 10 => .prSndR10
  | 11 => .prSndR11
  | 12 => .prSndR12
  | 13 => .prSndR13
  | 14 => .prSndR14
  | 15 => .prSndR15
  | 16 => .prIntStatus
  | 17 => .prReserved11
  | 18 => .prReserved12
  | 19 => .prReserved13
  | 20 => .prReserved14
  | 21 => .prReserved15
  | 22 => .prReserved16
  | 23 => .prReserved17
  | 24 => .prFixbias
  | 25 => .prBorder
  | 26 => .prLptLo
  | 27 => .prLptHi
  | 28 => .prReserved1C
  | 29 => .prReserved1D
  | 30 => .prReserved1E
  | _ => .prReserved1F

/-- A transaction that has no operand words and no bytes (R304). -/
def bare (p : Packet) (i : Instr) : Except DecodeError Instr :=
  if p.words = [] ∧ p.bytes = [] then .ok i else .error .wrongLength

/-- A transaction that has one operand word and no bytes (R304). -/
def oneWord (p : Packet) (f : Word32 → Instr) : Except DecodeError Instr :=
  match p.words, p.bytes with
  | [w], [] => .ok (f w)
  | _, _ => .error .wrongLength

/-- Bits 15:0 of an operand word: an address. Bits 31:16 are ignored (R302). -/
def wordAddr (w : Word32) : Half := w.extractLsb' 0 16

/-- Bits 7:0 of an operand word: a port number, or NWAIT. -/
def wordLow (w : Word32) : Byte := w.extractLsb' 0 8

/-- Bits 15:8 of CPU_IO's operand word: the data of a write. -/
def wordData (w : Word32) : Byte := w.extractLsb' 8 8

/-- CPU_MEM, by its kind imm8[1:0] (R302). -/
def decodeMem (imm : Byte) (p : Packet) : Except DecodeError Instr :=
  match (imm.extractLsb' 0 2).toNat with
  | 0 => oneWord p fun w => .cpuMemFetch (wordAddr w)
  | 1 => oneWord p fun w => .cpuMemRead (wordAddr w)
  | 2 => oneWord p fun w => .cpuMemWrite (wordAddr w)
  | _ => .error .reservedKind

/-- CPU_IO, by its direction imm8[0] (R302). -/
def decodeIo (imm : Byte) (p : Packet) : Except DecodeError Instr :=
  if imm.getLsbD 0 then oneWord p fun w => .cpuIoWrite (wordLow w) (wordData w)
  else oneWord p fun w => .cpuIoRead (wordLow w)

/-- CONFIGURE: four words, bits 31:8 of the last being 0 (R302, R360). -/
def decodeConfigure (imm : Byte) (p : Packet) : Except DecodeError Instr :=
  match p.words, p.bytes with
  | [fCpu, fSlot, fSnd, nw], [] =>
    if nw.extractLsb' 8 24 = 0 then .ok (.configure imm fCpu fSlot fSnd (wordLow nw)) else .error .nwaitHighBits
  | _, _ => .error .wrongLength

/-- SNAPSHOT_SAVE, by its subsystem imm8 (R302). -/
def decodeSave (imm : Byte) (p : Packet) : Except DecodeError Instr :=
  match imm.toNat with
  | 0 => bare p .snapshotSaveVideo
  | 1 => bare p .snapshotSaveSound
  | 2 => bare p .snapshotSaveInt
  | _ => .error .reservedSubsystem

/-- The word L of a SNAPSHOT_LOAD and exactly L bytes after it (R304). -/
def loadBytes (p : Packet) (f : List Byte → Instr) : Except DecodeError Instr :=
  match p.words with
  | [l] => if p.bytes.length = l.toNat then .ok (f p.bytes) else .error .wrongLength
  | _ => .error .wrongLength

/-- SNAPSHOT_LOAD, by its subsystem imm8 (R302). -/
def decodeLoad (imm : Byte) (p : Packet) : Except DecodeError Instr :=
  match imm.toNat with
  | 0 => loadBytes p .snapshotLoadVideo
  | 1 => loadBytes p .snapshotLoadSound
  | 2 => loadBytes p .snapshotLoadInt
  | _ => .error .reservedSubsystem

/-- WAIT_QUERY, by its kind imm8[1:0] (R302). For kind 3 the port is bits 7:0 of the word (R458). -/
def decodeQuery (imm : Byte) (p : Packet) : Except DecodeError Instr :=
  match (imm.extractLsb' 0 2).toNat with
  | 0 => oneWord p fun w => .waitQueryFetch (wordAddr w)
  | 1 => oneWord p fun w => .waitQueryRead (wordAddr w)
  | 2 => oneWord p fun w => .waitQueryWrite (wordAddr w)
  | _ => oneWord p fun w => .waitQueryIo (wordLow w)

/-- OP: by the opcode H[13:8] (R302). -/
def decodeOp (opcode : BitVec 6) (imm : Byte) (p : Packet) : Except DecodeError Instr :=
  match opcode.toNat with
  | 0 => bare p .slotStep
  | 1 => bare p .soundTick
  | 2 => bare p .videoSlot
  | 3 => bare p (.cpuCycles imm)
  | 4 => decodeMem imm p
  | 5 => decodeIo imm p
  | 6 => bare p .cpuEnd
  | 7 => bare p (.ext2 (imm.getLsbD 0))
  | 8 => decodeConfigure imm p
  | 9 => decodeSave imm p
  | 10 => decodeLoad imm p
  | 11 => bare p .reset
  | 12 => decodeQuery imm p
  | _ => .error .reservedOpcode

/-- The header decoder of R301, on the header's two bytes: the class hi[7:6] first, then for PW and PR the bit hi[5]. -/
def decodeHeader (hi lo : Byte) (p : Packet) : Except DecodeError Instr :=
  match (hi.extractLsb' 6 2).toNat with
  | 0 => if hi.getLsbD 5 then .error .reservedBit13 else bare p (portWriteInstr (hi.extractLsb' 0 5) lo)
  | 1 => if hi.getLsbD 5 then .error .reservedBit13 else bare p (portReadInstr (hi.extractLsb' 0 5))
  | 2 => decodeOp (hi.extractLsb' 0 6) lo p
  | _ => .error .reservedClass

/-- The decoder of a packet (R300, R301). Total: what is no transaction is rejected by name. -/
def decodePacket (p : Packet) : Except DecodeError Instr :=
  decodeHeader (p.header.extractLsb' 8 8) (p.header.extractLsb' 0 8) p

/-- The variant of a pixel family by colour mode, LSBALT and MSBALT (R600): a family uses both indicators with
2 colours, LSBALT alone with 4, none with 16 and 256. -/
def pickPixel (cm : Nat) (lsb msb : Bool) (c2 c2m c2l c2lm c4 c4l c16 c256 : Renderer) : Renderer :=
  match cm with
  | 0 => if lsb then (if msb then c2lm else c2l) else (if msb then c2m else c2)
  | 1 => if lsb then c4l else c4
  | 2 => c16
  | _ => c256

/-- The variant of a character family by colour mode, ALTIND0 and ALTIND1 (R600): both with 2 colours, ALTIND1
alone with 4, none with 16 and 256. -/
def pickChar (cm : Nat) (a0 a1 : Bool) (c2 c2a0 c2a1 c2a01 c4 c4a1 c16 c256 : Renderer) : Renderer :=
  match cm with
  | 0 => if a0 then (if a1 then c2a01 else c2a0) else (if a1 then c2a1 else c2)
  | 1 => if a1 then c4a1 else c4
  | 2 => c16
  | _ => c256

/-- The dispatch of R600 on the render key of R340: ACTIVE first, then VM, then CM, then the alternate indicators
that the family and the colour mode use. -/
def decodeKey (k : BitVec 10) : Renderer :=
  let cm := (k.extractLsb' 4 2).toNat
  let lsb := k.getLsbD 3
  let msb := k.getLsbD 2
  let a0 := k.getLsbD 1
  let a1 := k.getLsbD 0
  if k.getLsbD 9 then
    match (k.extractLsb' 6 3).toNat with
    | 0 => .sync
    | 1 => pickPixel cm lsb msb .pixel_2c .pixel_2c_msb .pixel_2c_lsb .pixel_2c_lsb_msb .pixel_4c .pixel_4c_lsb
        .pixel_16c .pixel_256c
    | 2 => .attrib
    | 3 => pickChar cm a0 a1 .ch256_2c .ch256_2c_a0 .ch256_2c_a1 .ch256_2c_a0_a1 .ch256_4c .ch256_4c_a1
        .ch256_16c .ch256_256c
    | 4 => pickChar cm a0 a1 .ch128_2c .ch128_2c_a0 .ch128_2c_a1 .ch128_2c_a0_a1 .ch128_4c .ch128_4c_a1
        .ch128_16c .ch128_256c
    | 5 => pickChar cm a0 a1 .ch64_2c .ch64_2c_a0 .ch64_2c_a1 .ch64_2c_a0_a1 .ch64_4c .ch64_4c_a1
        .ch64_16c .ch64_256c
    | 6 => .invalid
    | _ => pickPixel cm lsb msb .lpixel_2c .lpixel_2c_msb .lpixel_2c_lsb .lpixel_2c_lsb_msb .lpixel_4c .lpixel_4c_lsb
        .lpixel_16c .lpixel_256c
  else .border

/-- The decoder: a packet through the header table, a render key through the RKEY table. -/
def decode (x : Source) : Except DecodeError Instr :=
  match x with
  | .packet p => decodePacket p
  | .key k => .ok (decodeKey k).instr

/-- The match value of a renderer's RKEY row (the Encoding lines of R620 to R663): its key with every ignored bit 0. -/
def Renderer.keyMatch : Renderer → BitVec 10
  | .border => 0x000
  | .sync => 0x200
  | .invalid => 0x380
  | .attrib => 0x280
  | .pixel_2c => 0x240
  | .pixel_2c_msb => 0x244
  | .pixel_2c_lsb => 0x248
  | .pixel_2c_lsb_msb => 0x24C
  | .pixel_4c => 0x250
  | .pixel_4c_lsb => 0x258
  | .pixel_16c => 0x260
  | .pixel_256c => 0x270
  | .lpixel_2c => 0x3C0
  | .lpixel_2c_msb => 0x3C4
  | .lpixel_2c_lsb => 0x3C8
  | .lpixel_2c_lsb_msb => 0x3CC
  | .lpixel_4c => 0x3D0
  | .lpixel_4c_lsb => 0x3D8
  | .lpixel_16c => 0x3E0
  | .lpixel_256c => 0x3F0
  | .ch256_2c => 0x2C0
  | .ch256_2c_a0 => 0x2C2
  | .ch256_2c_a1 => 0x2C1
  | .ch256_2c_a0_a1 => 0x2C3
  | .ch256_4c => 0x2D0
  | .ch256_4c_a1 => 0x2D1
  | .ch256_16c => 0x2E0
  | .ch256_256c => 0x2F0
  | .ch128_2c => 0x300
  | .ch128_2c_a0 => 0x302
  | .ch128_2c_a1 => 0x301
  | .ch128_2c_a0_a1 => 0x303
  | .ch128_4c => 0x310
  | .ch128_4c_a1 => 0x311
  | .ch128_16c => 0x320
  | .ch128_256c => 0x330
  | .ch64_2c => 0x340
  | .ch64_2c_a0 => 0x342
  | .ch64_2c_a1 => 0x341
  | .ch64_2c_a0_a1 => 0x343
  | .ch64_4c => 0x350
  | .ch64_4c_a1 => 0x351
  | .ch64_16c => 0x360
  | .ch64_256c => 0x370

/-- The mask of a renderer's RKEY row: the key bits the row tests. -/
def Renderer.keyMask : Renderer → BitVec 10
  | .border => 0x200
  | .sync => 0x3C0
  | .invalid => 0x3C0
  | .attrib => 0x3C0
  | .pixel_2c => 0x3FC
  | .pixel_2c_msb => 0x3FC
  | .pixel_2c_lsb => 0x3FC
  | .pixel_2c_lsb_msb => 0x3FC
  | .pixel_4c => 0x3F8
  | .pixel_4c_lsb => 0x3F8
  | .pixel_16c => 0x3F0
  | .pixel_256c => 0x3F0
  | .lpixel_2c => 0x3FC
  | .lpixel_2c_msb => 0x3FC
  | .lpixel_2c_lsb => 0x3FC
  | .lpixel_2c_lsb_msb => 0x3FC
  | .lpixel_4c => 0x3F8
  | .lpixel_4c_lsb => 0x3F8
  | .lpixel_16c => 0x3F0
  | .lpixel_256c => 0x3F0
  | .ch256_2c => 0x3F3
  | .ch256_2c_a0 => 0x3F3
  | .ch256_2c_a1 => 0x3F3
  | .ch256_2c_a0_a1 => 0x3F3
  | .ch256_4c => 0x3F1
  | .ch256_4c_a1 => 0x3F1
  | .ch256_16c => 0x3F0
  | .ch256_256c => 0x3F0
  | .ch128_2c => 0x3F3
  | .ch128_2c_a0 => 0x3F3
  | .ch128_2c_a1 => 0x3F3
  | .ch128_2c_a0_a1 => 0x3F3
  | .ch128_4c => 0x3F1
  | .ch128_4c_a1 => 0x3F1
  | .ch128_16c => 0x3F0
  | .ch128_256c => 0x3F0
  | .ch64_2c => 0x3F3
  | .ch64_2c_a0 => 0x3F3
  | .ch64_2c_a1 => 0x3F3
  | .ch64_2c_a0_a1 => 0x3F3
  | .ch64_4c => 0x3F1
  | .ch64_4c_a1 => 0x3F1
  | .ch64_16c => 0x3F0
  | .ch64_256c => 0x3F0

/-- A renderer's row matches a key: the key agrees with the match value on every bit of the mask (R340). -/
def Renderer.matchesKey (r : Renderer) (k : BitVec 10) : Bool := k &&& r.keyMask = r.keyMatch

/-- A packet with the header bytes hi and lo. -/
def packetOf (hi lo : Byte) (words : List Word32) (bytes : List Byte) : Source :=
  .packet { header := hi ++ lo, words := words, bytes := bytes }

/-- The operand word that holds an address in bits 15:0. -/
def addrWord (a : Half) : Word32 := (0 : Half) ++ a

/-- The operand word of CPU_IO: the port in bits 7:0, the data in bits 15:8. -/
def ioWord (port data : Byte) : Word32 := (0 : Half) ++ (data ++ port)

/-- The encoder: the packet or key of an instruction, every ignored bit 0 (R300 to R304, R310, R340). -/
def encode (i : Instr) : Source :=
  match i with
  | .pwSndR0 data => packetOf 0x00 data [] []
  | .prSndR0 => packetOf 0x40 0 [] []
  | .pwSndR1 data => packetOf 0x01 data [] []
  | .prSndR1 => packetOf 0x41 0 [] []
  | .pwSndR2 data => packetOf 0x02 data [] []
  | .prSndR2 => packetOf 0x42 0 [] []
  | .pwSndR3 data => packetOf 0x03 data [] []
  | .prSndR3 => packetOf 0x43 0 [] []
  | .pwSndR4 data => packetOf 0x04 data [] []
  | .prSndR4 => packetOf 0x44 0 [] []
  | .pwSndR5 data => packetOf 0x05 data [] []
  | .prSndR5 => packetOf 0x45 0 [] []
  | .pwSndR6 data => packetOf 0x06 data [] []
  | .prSndR6 => packetOf 0x46 0 [] []
  | .pwSndR7 data => packetOf 0x07 data [] []
  | .prSndR7 => packetOf 0x47 0 [] []
  | .pwSndR8 data => packetOf 0x08 data [] []
  | .prSndR8 => packetOf 0x48 0 [] []
  | .pwSndR9 data => packetOf 0x09 data [] []
  | .prSndR9 => packetOf 0x49 0 [] []
  | .pwSndR10 data => packetOf 0x0A data [] []
  | .prSndR10 => packetOf 0x4A 0 [] []
  | .pwSndR11 data => packetOf 0x0B data [] []
  | .prSndR11 => packetOf 0x4B 0 [] []
  | .pwSndR12 data => packetOf 0x0C data [] []
  | .prSndR12 => packetOf 0x4C 0 [] []
  | .pwSndR13 data => packetOf 0x0D data [] []
  | .prSndR13 => packetOf 0x4D 0 [] []
  | .pwSndR14 data => packetOf 0x0E data [] []
  | .prSndR14 => packetOf 0x4E 0 [] []
  | .pwSndR15 data => packetOf 0x0F data [] []
  | .prSndR15 => packetOf 0x4F 0 [] []
  | .pwIntCtrl data => packetOf 0x10 data [] []
  | .prIntStatus => packetOf 0x50 0 [] []
  | .pwReserved11 data => packetOf 0x11 data [] []
  | .prReserved11 => packetOf 0x51 0 [] []
  | .pwReserved12 data => packetOf 0x12 data [] []
  | .prReserved12 => packetOf 0x52 0 [] []
  | .pwReserved13 data => packetOf 0x13 data [] []
  | .prReserved13 => packetOf 0x53 0 [] []
  | .pwReserved14 data => packetOf 0x14 data [] []
  | .prReserved14 => packetOf 0x54 0 [] []
  | .pwReserved15 data => packetOf 0x15 data [] []
  | .prReserved15 => packetOf 0x55 0 [] []
  | .pwReserved16 data => packetOf 0x16 data [] []
  | .prReserved16 => packetOf 0x56 0 [] []
  | .pwReserved17 data => packetOf 0x17 data [] []
  | .prReserved17 => packetOf 0x57 0 [] []
  | .pwFixbias data => packetOf 0x18 data [] []
  | .prFixbias => packetOf 0x58 0 [] []
  | .pwBorder data => packetOf 0x19 data [] []
  | .prBorder => packetOf 0x59 0 [] []
  | .pwLptLo data => packetOf 0x1A data [] []
  | .prLptLo => packetOf 0x5A 0 [] []
  | .pwLptHi data => packetOf 0x1B data [] []
  | .prLptHi => packetOf 0x5B 0 [] []
  | .pwReserved1C data => packetOf 0x1C data [] []
  | .prReserved1C => packetOf 0x5C 0 [] []
  | .pwReserved1D data => packetOf 0x1D data [] []
  | .prReserved1D => packetOf 0x5D 0 [] []
  | .pwReserved1E data => packetOf 0x1E data [] []
  | .prReserved1E => packetOf 0x5E 0 [] []
  | .pwReserved1F data => packetOf 0x1F data [] []
  | .prReserved1F => packetOf 0x5F 0 [] []
  | .slotStep => packetOf 0x80 0 [] []
  | .soundTick => packetOf 0x81 0 [] []
  | .videoSlot => packetOf 0x82 0 [] []
  | .cpuCycles n => packetOf 0x83 n [] []
  | .cpuMemFetch a => packetOf 0x84 0 [addrWord a] []
  | .cpuMemRead a => packetOf 0x84 1 [addrWord a] []
  | .cpuMemWrite a => packetOf 0x84 2 [addrWord a] []
  | .cpuIoRead port => packetOf 0x85 0 [ioWord port 0] []
  | .cpuIoWrite port data => packetOf 0x85 1 [ioWord port data] []
  | .cpuEnd => packetOf 0x86 0 [] []
  | .ext2 level => packetOf 0x87 (if level then 1 else 0) [] []
  | .configure memMode fCpu fSlot fSnd nwait => packetOf 0x88 memMode [fCpu, fSlot, fSnd, ioWord nwait 0] []
  | .snapshotSaveVideo => packetOf 0x89 0 [] []
  | .snapshotSaveSound => packetOf 0x89 1 [] []
  | .snapshotSaveInt => packetOf 0x89 2 [] []
  | .snapshotLoadVideo d => packetOf 0x8A 0 [BitVec.ofNat 32 d.length] d
  | .snapshotLoadSound d => packetOf 0x8A 1 [BitVec.ofNat 32 d.length] d
  | .snapshotLoadInt d => packetOf 0x8A 2 [BitVec.ofNat 32 d.length] d
  | .reset => packetOf 0x8B 0 [] []
  | .waitQueryFetch a => packetOf 0x8C 0 [addrWord a] []
  | .waitQueryRead a => packetOf 0x8C 1 [addrWord a] []
  | .waitQueryWrite a => packetOf 0x8C 2 [addrWord a] []
  | .waitQueryIo port => packetOf 0x8C 3 [ioWord port 0] []
  | .border => .key Renderer.border.keyMatch
  | .sync => .key Renderer.sync.keyMatch
  | .invalid => .key Renderer.invalid.keyMatch
  | .attrib => .key Renderer.attrib.keyMatch
  | .pixel_2c => .key Renderer.pixel_2c.keyMatch
  | .pixel_2c_msb => .key Renderer.pixel_2c_msb.keyMatch
  | .pixel_2c_lsb => .key Renderer.pixel_2c_lsb.keyMatch
  | .pixel_2c_lsb_msb => .key Renderer.pixel_2c_lsb_msb.keyMatch
  | .pixel_4c => .key Renderer.pixel_4c.keyMatch
  | .pixel_4c_lsb => .key Renderer.pixel_4c_lsb.keyMatch
  | .pixel_16c => .key Renderer.pixel_16c.keyMatch
  | .pixel_256c => .key Renderer.pixel_256c.keyMatch
  | .lpixel_2c => .key Renderer.lpixel_2c.keyMatch
  | .lpixel_2c_msb => .key Renderer.lpixel_2c_msb.keyMatch
  | .lpixel_2c_lsb => .key Renderer.lpixel_2c_lsb.keyMatch
  | .lpixel_2c_lsb_msb => .key Renderer.lpixel_2c_lsb_msb.keyMatch
  | .lpixel_4c => .key Renderer.lpixel_4c.keyMatch
  | .lpixel_4c_lsb => .key Renderer.lpixel_4c_lsb.keyMatch
  | .lpixel_16c => .key Renderer.lpixel_16c.keyMatch
  | .lpixel_256c => .key Renderer.lpixel_256c.keyMatch
  | .ch256_2c => .key Renderer.ch256_2c.keyMatch
  | .ch256_2c_a0 => .key Renderer.ch256_2c_a0.keyMatch
  | .ch256_2c_a1 => .key Renderer.ch256_2c_a1.keyMatch
  | .ch256_2c_a0_a1 => .key Renderer.ch256_2c_a0_a1.keyMatch
  | .ch256_4c => .key Renderer.ch256_4c.keyMatch
  | .ch256_4c_a1 => .key Renderer.ch256_4c_a1.keyMatch
  | .ch256_16c => .key Renderer.ch256_16c.keyMatch
  | .ch256_256c => .key Renderer.ch256_256c.keyMatch
  | .ch128_2c => .key Renderer.ch128_2c.keyMatch
  | .ch128_2c_a0 => .key Renderer.ch128_2c_a0.keyMatch
  | .ch128_2c_a1 => .key Renderer.ch128_2c_a1.keyMatch
  | .ch128_2c_a0_a1 => .key Renderer.ch128_2c_a0_a1.keyMatch
  | .ch128_4c => .key Renderer.ch128_4c.keyMatch
  | .ch128_4c_a1 => .key Renderer.ch128_4c_a1.keyMatch
  | .ch128_16c => .key Renderer.ch128_16c.keyMatch
  | .ch128_256c => .key Renderer.ch128_256c.keyMatch
  | .ch64_2c => .key Renderer.ch64_2c.keyMatch
  | .ch64_2c_a0 => .key Renderer.ch64_2c_a0.keyMatch
  | .ch64_2c_a1 => .key Renderer.ch64_2c_a1.keyMatch
  | .ch64_2c_a0_a1 => .key Renderer.ch64_2c_a0_a1.keyMatch
  | .ch64_4c => .key Renderer.ch64_4c.keyMatch
  | .ch64_4c_a1 => .key Renderer.ch64_4c_a1.keyMatch
  | .ch64_16c => .key Renderer.ch64_16c.keyMatch
  | .ch64_256c => .key Renderer.ch64_256c.keyMatch

/-- The header's operand words (R304), by its high byte. -/
def wordCount (hi : Byte) : Nat :=
  match hi.toNat with
  | 0x84 => 1
  | 0x85 => 1
  | 0x88 => 4
  | 0x8A => 1
  | 0x8C => 1
  | _ => 0

/-- n operand words, read from a number whose bit 0 is the first word's least significant bit. -/
def wordsFrom (n w : Nat) : List Word32 :=
  match n with
  | 0 => []
  | n + 1 => BitVec.ofNat 32 w :: wordsFrom n (w / 4294967296)

/-- n bytes, read from a number the same way. -/
def bytesFrom (n w : Nat) : List Byte :=
  match n with
  | 0 => []
  | n + 1 => BitVec.ofNat 8 w :: bytesFrom n (w / 256)

/-- The byte count that follows the word L of a SNAPSHOT_LOAD (R304), and 0 for every other header. -/
def byteCount (hi : Byte) (words : List Word32) : Nat :=
  if hi = 0x8A then (words.headD 0).toNat else 0

/-- The packet or key that a number of nbits bits stands for, its words laid out in order, low word first. A
number narrower than a header word is a render key (10 bits, R340). Every other number is a header and its operands, and
the header alone fixes how long they are (R304): nbits is not compared with that length, bits that the number lacks are 0,
and bits above the length, or above a key's 10, are dropped (DESIGN CHOICE, log 10). -/
def sourceOfNat (nbits w : Nat) : Source :=
  if nbits < 16 then .key (BitVec.ofNat 10 w)
  else
    let h : Half := BitVec.ofNat 16 w
    let hi : Byte := h.extractLsb' 8 8
    let words := wordsFrom (wordCount hi) (w / 65536)
    .packet
      { header := h
        words := words
        bytes := bytesFrom (byteCount hi words) (w / 65536 / 4294967296) }

/-- The instruction the decoder reads from an instruction whose bits are w, numbered as the opcode table numbers
them; none where the decoder rejects it. The rows of format RKEY have numbers that are header words too: at 16
bits such a number is a header (DESIGN CHOICE, log 3). -/
def decodeTableWord (nbits w : Nat) : Option Instr :=
  match decode (sourceOfNat nbits w) with
  | .ok i => some i
  | .error _ => none

end Sys2Proof
end

