-- ==== Sys2Proof/Machine/State.lean ====
section
/-! DEFINITION. The state of the block: every field of 10_state.md R102, R110, R120 and R130, unit by unit, with its
reset value; the outputs of R140 and R16; the parameters of R9; and what the agents outside the block own or supply. -/

namespace Sys2Proof.Machine

/-- What the block reads of the collaborator's byte stores: video memory by video address, the page-to-segment
table by page number. A list of (address, byte) pairs in the canonical form Memory.wf of Machine/Ops.lean. -/
abbrev Memory := List Host.Cell

/-- The non-contended timing mode (R102 mem_mode, 41_wait_states.md R455). -/
inductive MemMode where
  | always
  | fetchOnly
  | never
deriving DecidableEq, Repr

/-- The envelope direction −1, 0, +1 (R120 env_dir). -/
inductive Dir where
  | down
  | still
  | up
deriving DecidableEq, Repr

/-- An I/O access held past the end of its slot (R102 pending_io). The data byte is a write's; a held read has 0 there
(DESIGN CHOICE, log 23). -/
structure PendingIo where
  write : Bool
  port : Byte
  data : Byte
deriving DecidableEq, Repr

/-- CLK, the clock converter and scheduler (R102). The two accumulators are s64 values; that they stay in range
is an invariant (Safety.lean), because an update that would leave it is not performed (40_scheduler.md R412). -/
structure Clk where
  accCpu : Int
  accSnd : Int
  rCpu : Nat
  rSnd : Nat
  recip : Nat
  configured : Bool
  memMode : MemMode
  nwait : Byte
  slotCount : BitVec 64
  inInstr : Bool
  instrCost : BitVec 32
  pendingIo : Option PendingIo
  onehzHalf : BitVec 32
  faulted : Bool
  refused : Bool
deriving DecidableEq, Repr

/-- The reset column of R102. -/
def Clk.reset : Clk where
  accCpu := -1
  accSnd := -1
  rCpu := 0
  rSnd := 0
  recip := 0
  configured := false
  memMode := .never
  nwait := 0
  slotCount := 0
  inInstr := false
  instrCost := 0
  pendingIo := none
  onehzHalf := 1
  faulted := false
  refused := false

/-- VID, the video slot engine (R110). -/
structure Vid where
  slot : BitVec 6
  line : BitVec 16
  lptBase : Half
  lptLo : Byte
  lptHi : Byte
  lptCur : Half
  needLpb : Bool
  linesLeft : Nat
  lpbBuf : Vector Byte 16
  lpb : Vector Byte 16
  ld1 : Half
  ld2 : Half
  displayEn : Bool
  vsync : Bool
  border : Byte
  fixbias : Byte
  busLast : Byte
  lineBuf : List Byte
deriving DecidableEq, Repr

/-- The reset column of R110. -/
def Vid.reset : Vid where
  slot := 0
  line := 0
  lptBase := 0
  lptLo := 0
  lptHi := 0
  lptCur := 0
  needLpb := true
  linesLeft := 0
  lpbBuf := Vector.replicate 16 0
  lpb := Vector.replicate 16 0
  ld1 := 0
  ld2 := 0
  displayEn := false
  vsync := false
  border := 0
  fixbias := 0
  busLast := 0
  lineBuf := []

/-- SND, the sound synthesizer (R120). -/
structure Snd where
  reg : Vector Byte 16
  toneCnt : Vector (BitVec 12) 3
  toneOut : Vector Bool 3
  noiseCnt : Byte
  lfsr : BitVec 17
  noiseOut : Bool
  envCnt : Byte
  envPos : BitVec 5
  envDir : Dir
deriving DecidableEq, Repr

/-- The reset column of R120. -/
def Snd.reset : Snd where
  reg := Vector.replicate 16 0
  toneCnt := Vector.replicate 3 0
  toneOut := Vector.replicate 3 false
  noiseCnt := 0
  lfsr := 0xF
  noiseOut := true
  envCnt := 0
  envPos := 0
  envDir := .still

/-- INT, the interrupt latch unit (R130). Sources: 0 timer, 1 the 1 Hz clock, 2 external line 1 (the video
engine), 3 external line 2 (a host pin). -/
structure Intr where
  level : Vector Bool 4
  latch : Vector Bool 4
  enable : Vector Bool 4
  irq : Bool
  timerCnt : BitVec 32
  onehzCnt : BitVec 32
deriving DecidableEq, Repr

/-- The reset column of R130. -/
def Intr.reset : Intr where
  level := #v[true, true, false, true]
  latch := Vector.replicate 4 false
  enable := Vector.replicate 4 false
  irq := false
  timerCnt := 0
  onehzCnt := 0

/-- The events of the block's output trace (00_scope.md R16, R140). -/
inductive Event where
  | scanline (buf : List Byte) (n : Nat)
  | vsync (active : Bool) (slot : BitVec 6)
  | sample (left right : BitVec 16)
  | irqRequest
  | irqClear
deriving DecidableEq, Repr

/-- One call of a per-slot observer with the raster position (40_scheduler.md R414). -/
structure ObserverCall where
  observer : Nat
  line : BitVec 16
  slot : BitVec 6
deriving DecidableEq, Repr

/-- One access to a collaborator's port outside the block's window (40_scheduler.md R408). -/
inductive ExtAccess where
  | read (port : Byte)
  | write (port data : Byte)
deriving DecidableEq, Repr

/-- The subsystems a snapshot record is of (46_snapshot.md R850). -/
inductive Subsystem where
  | video
  | sound
  | int
deriving DecidableEq, Repr

/-- The codes of ConfigurationError (60_exceptions.md R901). -/
inductive ConfigError where
  /-- CE1 "degenerate frequency". -/
  | ce1
  /-- CE2 "invalid wait-state mode". -/
  | ce2
  /-- CE3 "ratio below one accumulator unit". -/
  | ce3
  /-- CE4 "ratio too large". -/
  | ce4
  /-- CE5 "parameter out of range", at construction only. -/
  | ce5
deriving DecidableEq, Repr

/-- The consistency checks of 46_snapshot.md R856, R857 and R859, each named by its rule and letter. -/
inductive RecordCheck where
  | r856a | r856b | r856c | r856d | r856e | r856f
  | r857a | r857b | r857c | r857d | r857e
  | r859a | r859b | r859c | r859d | r859e
deriving DecidableEq, Repr

/-- The codes of SnapshotFormatError (60_exceptions.md R902). -/
inductive SnapshotError where
  /-- SF1 "truncated". -/
  | sf1
  /-- SF2 "unknown version". -/
  | sf2
  /-- SF3 "trailing bytes". -/
  | sf3
  /-- SF4 "inconsistent", with the check's rule and letter. -/
  | sf4 (c : RecordCheck)
deriving DecidableEq, Repr

/-- The accumulator a FatalAssertion FA1 records (60_exceptions.md R903). -/
inductive Accumulator where
  | cpu
  | snd
deriving DecidableEq, Repr

/-- Why a transaction was refused (60_exceptions.md R904 (a) to (d)). Of several reasons the first by R905 is reported;
R905 does not list zeroCycles, which comes last (DESIGN CHOICE, log 26). -/
inductive RefuseReason where
  | encoding (e : DecodeError)
  | notConfigured
  | zeroCycles
  | faulted
deriving DecidableEq, Repr

/-- What the issuer of a transaction got (60_exceptions.md R900). -/
inductive Reply where
  /-- No transaction has been issued yet. -/
  | none
  /-- Completion, with no result. -/
  | completed
  /-- Completion of a PR or a WAIT_QUERY, with its byte. -/
  | byte (b : Byte)
  /-- Completion of a SNAPSHOT_SAVE, with its record. -/
  | record (bs : List Byte)
  /-- The pixel group of a renderer that was run alone (DESIGN CHOICE, log 3). -/
  | group (bs : List Byte)
  /-- A slot step is in progress and waits for the CPU agent's next event (DESIGN CHOICE, log 5). -/
  | pending
  | configError (c : ConfigError)
  | snapshotError (u : Subsystem) (c : SnapshotError)
  | fatal (a : Accumulator)
  | refused (r : RefuseReason)
deriving DecidableEq, Repr

/-- No transaction of this block stops the machine: its errors, its fatal assertion and its refusals are outcomes
the issuer gets (60_exceptions.md R900), after which the block goes on. So there is no fault. -/
inductive Fault where
deriving DecidableEq, Repr

/-- Why exec could give no meaning. -/
inductive Refusal where
  /-- Raised by an arm of exec for an instruction that has no meaning yet; no arm raises it. Safe. -/
  | notModelled (mnemonic : String)
deriving DecidableEq, Repr

/-- The machine. clk, vid, snd and intr are the block's own state. The other fields are its parameters, its
outputs, and what the agents outside it own or supply (INVENTORY.md, State). -/
structure State where
  /-- The construction parameters (R9), fixed while a run is in progress, kept by RESET (R1000). -/
  params : Params
  clk : Clk
  vid : Vid
  snd : Snd
  intr : Intr
  /-- Video memory, the collaborator's (R200, R201). -/
  mem : Memory
  /-- The collaborator's page-to-segment table (R208). -/
  pageMap : Memory
  /-- The output trace (R140), oldest event first. -/
  trace : List Event
  /-- The calls of the observers (R414), oldest first. -/
  observed : List ObserverCall
  /-- The bytes delivered to the CPU (R408), oldest first. -/
  delivered : List Byte
  /-- What the CPU agent got of the events it supplied inside slot steps (R900), one outcome an event, oldest first
  (DEDUCED, log 25). -/
  agentReplies : List Reply
  /-- The accesses to collaborator's ports (R408), oldest first. -/
  extIo : List ExtAccess
  /-- The model's own: how many values of Config.ioRead have been drawn (DESIGN CHOICE, log 6). -/
  ioDraws : Nat
  /-- What the host got of the last transaction it issued (R900). -/
  reply : Reply
  /-- The model's own: a slot step is in progress and waits for the CPU agent (DESIGN CHOICE, log 5). -/
  slotOpen : Bool
  /-- The CPU agent's coming events (R32, R405), next first. -/
  cpuIn : List CpuInput
  /-- The host's coming transactions (R4 (c)), next first. -/
  hostIn : List HostInput
deriving DecidableEq, Repr

/-- The power-on state of a block constructed with parameters p (70_reset_and_hazards.md R1001): every field of the
block at its reset value; no output, no input, and memories with nothing listed. -/
def State.powerOn (p : Params) : State where
  params := p
  clk := Clk.reset
  vid := Vid.reset
  snd := Snd.reset
  intr := Intr.reset
  mem := []
  pageMap := []
  trace := []
  observed := []
  delivered := []
  agentReplies := []
  extIo := []
  ioDraws := 0
  reply := .none
  slotOpen := false
  cpuIn := []
  hostIn := []

/-- The machine right after reset: the power-on state of R1001, with the parameters of log 2 (DESIGN CHOICE). -/
def State.reset : State := State.powerOn Config.testParams

end Sys2Proof.Machine
end

