-- ==== Sys2Proof/Machine/Ops.lean ====
section
/-! DEFINITION. The named operations over memory, the outputs, and the outcomes of a transaction. The block has no
trap entry or return of its own (60_exceptions.md R910): what it has instead, the five outcomes of R900, is here,
each as ONE operation. -/

namespace Sys2Proof.Machine

/-! ## Memory -/

/-- One byte of the store. An address that is not listed reads as 0 (DESIGN CHOICE, log 4). -/
def Memory.read (m : Memory) (a : Half) : Byte :=
  match m with
  | [] => 0
  | (b, w) :: m => if b = a.toNat then w else Memory.read m a

/-- The store with v at an address, in canonical form: writing 0 takes the entry out. -/
def Memory.write (m : Memory) (a : Half) (v : Byte) : Memory :=
  match m with
  | [] => if v = 0 then [] else [(a.toNat, v)]
  | (b, w) :: m =>
    if a.toNat < b then (if v = 0 then (b, w) :: m else (a.toNat, v) :: (b, w) :: m)
    else if b = a.toNat then (if v = 0 then m else (b, v) :: m)
    else (b, w) :: Memory.write m a v

/-- The canonical form: addresses strictly rising, each of 16 bits, and no entry equal to what an unlisted
address reads as. -/
abbrev Memory.wf (m : Memory) : Prop :=
  m.Pairwise (fun x y => x.1 < y.1) ∧ ∀ c ∈ m, c.2 ≠ 0 ∧ c.1 < 65536

/-- A change the collaborator makes to what it owns (00_scope.md R8, R31; 20_memory.md R209). -/
def collaborate (c : Collab) (s : State) : State :=
  match c with
  | .poke a v => { s with mem := Memory.write s.mem a v }
  | .mapPage page seg => { s with pageMap := Memory.write s.pageMap page seg }

/-! ## Updates of one part of the state -/

def State.setClk (s : State) (c : Clk) : State := { s with clk := c }

def State.setVid (s : State) (v : Vid) : State := { s with vid := v }

def State.setSnd (s : State) (n : Snd) : State := { s with snd := n }

def State.setIntr (s : State) (i : Intr) : State := { s with intr := i }

def State.setReply (s : State) (r : Reply) : State := { s with reply := r }

def State.setSlotOpen (s : State) (b : Bool) : State := { s with slotOpen := b }

def State.setCpuIn (s : State) (q : List CpuInput) : State := { s with cpuIn := q }

/-- Append one event to the output trace (00_scope.md R16). -/
def State.emit (s : State) (e : Event) : State := { s with trace := s.trace ++ [e] }

/-- Hand one byte to the CPU (40_scheduler.md R408). -/
def State.deliver (s : State) (b : Byte) : State := { s with delivered := s.delivered ++ [b] }

/-- Return the outcome of an event to the CPU agent that supplied it inside a slot step (60_exceptions.md R900). -/
def State.tellAgent (s : State) (r : Reply) : State := { s with agentReplies := s.agentReplies ++ [r] }

/-! ## The outcomes of a transaction (60_exceptions.md R900) -/

/-- Refusal inside a transaction (R904): `refused` is set and nothing else changes. -/
def markRefused (s : State) : State := s.setClk { s.clk with refused := true }

/-- Refusal of a transaction (R904): `refused` is set, the issuer gets no result but the reason, and nothing else
changes. -/
def refuse (r : RefuseReason) (s : State) : State := (markRefused s).setReply (.refused r)

/-- FatalAssertion FA1 (R903): the block is faulted, and the update that overflowed is not performed. -/
def raiseFatal (a : Accumulator) (s : State) : State :=
  (s.setClk { s.clk with faulted := true }).setReply (.fatal a)

/-- ConfigurationError (R901): the issuer gets the code, and nothing else changes. -/
def raiseConfig (c : ConfigError) (s : State) : State := s.setReply (.configError c)

/-- Completion (R900), unless the transaction ended in a FatalAssertion. -/
def complete (s : State) : State :=
  if s.clk.faulted then s else s.setReply .completed

/-- Refusal of an event inside a slot step (R904): as every refusal, but the issuer is the CPU agent. -/
def refuseAgent (r : RefuseReason) (s : State) : State := (markRefused s).tellAgent (.refused r)

/-- The end of an event inside a slot step (R900): the CPU agent gets completion, or the FatalAssertion that stopped the
event, which can only be acc_cpu's (R903, R412). -/
def completeAgent (s : State) : State := s.tellAgent (if s.clk.faulted then .fatal .cpu else .completed)

/-- A transaction that any state but a faulted one accepts (R904 (d), R905). -/
def accept (f : State → State) (s : State) : Host.Outcome State Fault Refusal :=
  if s.clk.faulted then .next (refuse .faulted s) else .next (f s)

/-- A transaction that is refused before the first successful CONFIGURE (R904 (b)); faulted is tested first (R905). -/
def acceptConfigured (f : State → State) (s : State) : Host.Outcome State Fault Refusal :=
  accept (fun s => if s.clk.configured then f s else refuse .notConfigured s) s

/-- A transaction that writes state and returns no result. -/
def perform (f : State → State) (s : State) : Host.Outcome State Fault Refusal :=
  accept (fun s => complete (f s)) s

/-- A transaction that returns one byte and changes no state of the block. -/
def answerByte (f : State → Byte) (s : State) : Host.Outcome State Fault Refusal :=
  accept (fun s => s.setReply (.byte (f s))) s

/-! ## The accumulators (40_scheduler.md R412) -/

/-- The value fits the s64 accumulators. -/
def fitsS64 (x : Int) : Bool := decide (-9223372036854775808 ≤ x ∧ x < 9223372036854775808)

/-- Replace acc_cpu, or raise FatalAssertion where the value does not fit (R412). -/
def updateCpu (x : Int) (s : State) : State :=
  if fitsS64 x then s.setClk { s.clk with accCpu := x } else raiseFatal .cpu s

/-- Replace acc_snd, or raise FatalAssertion where the value does not fit (R412). -/
def updateSnd (x : Int) (s : State) : State :=
  if fitsS64 x then s.setClk { s.clk with accSnd := x } else raiseFatal .snd s

/-- Go on with the transaction, unless it ended in a FatalAssertion (R903: the transaction stops at that point). -/
def unlessFatal (s : State) (f : State → State) : State :=
  if s.clk.faulted then s else f s

end Sys2Proof.Machine
end

