-- ==== Sys2Proof/Machine/Operands.lean ====
section
/-! DEFINITION. The views of the registers and memory bytes that the rules name: the fields of the committed LPB
(10_state.md R111), the sound registers' fields (44_sound.md R720), the port window (30_encoding.md R310), and the
big-endian fields of the snapshot records (46_snapshot.md R852). -/

namespace Sys2Proof.Machine

/-! ## The committed LPB (R111) -/

/-- SC, the line-repeat count. -/
def Vid.sc (v : Vid) : Byte := v.lpb[0]

/-- VINT, the interrupt-request flag. -/
def Vid.vint (v : Vid) : Bool := v.lpb[1].getLsbD 7

/-- CM, the colour mode 0..3. -/
def Vid.cm (v : Vid) : BitVec 2 := v.lpb[1].extractLsb' 5 2

/-- VRES, the vertical-resolution flag. -/
def Vid.vres (v : Vid) : Bool := v.lpb[1].getLsbD 4

/-- VM, the video mode 0..7. -/
def Vid.vm (v : Vid) : BitVec 3 := v.lpb[1].extractLsb' 1 3

/-- RELOAD, the flag that ends a frame. -/
def Vid.reload (v : Vid) : Bool := v.lpb[1].getLsbD 0

/-- LM, the left margin slot. -/
def Vid.lm (v : Vid) : BitVec 6 := v.lpb[2].extractLsb' 0 6

def Vid.lsbAlt (v : Vid) : Bool := v.lpb[2].getLsbD 6

def Vid.msbAlt (v : Vid) : Bool := v.lpb[2].getLsbD 7

/-- RM, the right margin slot. -/
def Vid.rm (v : Vid) : BitVec 6 := v.lpb[3].extractLsb' 0 6

def Vid.altInd1 (v : Vid) : Bool := v.lpb[3].getLsbD 6

def Vid.altInd0 (v : Vid) : Bool := v.lpb[3].getLsbD 7

/-- LD1B, the base of LD1: low byte at the lower address (20_memory.md R203). -/
def Vid.ld1b (v : Vid) : Half := v.lpb[5] ++ v.lpb[4]

/-- LD2B, the base of LD2. -/
def Vid.ld2b (v : Vid) : Half := v.lpb[7] ++ v.lpb[6]

/-- PAL[i], the 8-entry palette. -/
def Vid.pal (v : Vid) (i : BitVec 3) : Byte := v.lpb[8 + i.toNat]'(by have := i.isLt; omega)

/-- The line count of a block (30_encoding.md R331): 256 − SC, or 256 where SC is 0. -/
def lineCount (sc : Byte) : Nat := if sc = 0 then 256 else 256 - sc.toNat

/-- lpt_base from its two port registers (30_encoding.md R324, 20_memory.md R203). -/
def lptBaseOf (hi lo : Byte) : Half := hi ++ (lo.extractLsb' 4 4 ++ (0 : BitVec 4))

/-! ## The sound registers (R720) -/

/-- T(c), the 12-bit tone period of channel c. -/
def Snd.period (n : Snd) (c : Fin 3) : BitVec 12 :=
  match c with
  | 0 => n.reg[3].extractLsb' 0 4 ++ n.reg[0]
  | 1 => n.reg[3].extractLsb' 4 4 ++ n.reg[1]
  | 2 => n.reg[4].extractLsb' 0 4 ++ n.reg[2]

/-- NF, the noise period. -/
def Snd.nf (n : Snd) : Byte := n.reg[5]

/-- EP, the envelope period. -/
def Snd.ep (n : Snd) : Byte := n.reg[8]

/-- NW, the noise width select. -/
def Snd.nw (n : Snd) : BitVec 3 := n.reg[4].extractLsb' 4 3

/-- WIDTH(NW), the LFSR widths of 30_encoding.md R321. -/
def noiseWidth (nw : BitVec 3) : Nat :=
  match nw.toNat with
  | 0 => 4
  | 1 => 5
  | 2 => 7
  | 3 => 9
  | 4 => 11
  | 5 => 15
  | _ => 17

/-- W, the current LFSR width. -/
def Snd.width (n : Snd) : Nat := noiseWidth n.nw

/-- mask(W) = 2^W − 1, as a 17-bit value (00_scope.md R12). -/
def lfsrMask (w : Nat) : BitVec 17 := BitVec.ofNat 17 (2 ^ w - 1)

def Snd.hold (n : Snd) : Bool := n.reg[9].getLsbD 0

def Snd.alt (n : Snd) : Bool := n.reg[9].getLsbD 1

def Snd.att (n : Snd) : Bool := n.reg[9].getLsbD 2

def Snd.cont (n : Snd) : Bool := n.reg[9].getLsbD 3

/-- TD(s, c): the tone gate of channel c is disabled on side s (0 left, 1 right). -/
def Snd.td (n : Snd) (side : Fin 2) (c : Fin 3) : Bool := (n.reg[6 + side.val]'(by omega)).getLsbD c.val

/-- ND(s, c): the noise gate of channel c is disabled on side s. -/
def Snd.nd (n : Snd) (side : Fin 2) (c : Fin 3) : Bool := (n.reg[6 + side.val]'(by omega)).getLsbD (3 + c.val)

/-- LEV(s, c), the level register of channel c on side s. -/
def Snd.lev (n : Snd) (side : Fin 2) (c : Fin 3) : Byte := n.reg[10 + 3 * side.val + c.val]'(by omega)

/-! ## The port window (R310) -/

/-- The block's offset of a port, where the port is in the window PORT_BASE .. PORT_BASE + 31 (40_scheduler.md R408). -/
def portOffset (p : Params) (port : Byte) : Option (BitVec 5) :=
  if p.portBase.toNat ≤ port.toNat ∧ port.toNat < p.portBase.toNat + 32 then
    some (BitVec.ofNat 5 (port.toNat - p.portBase.toNat))
  else none

/-! ## Big-endian record fields (R852) -/

def bytes16 (x : BitVec 16) : List Byte := [x.extractLsb' 8 8, x.extractLsb' 0 8]

def bytes24 (x : BitVec 24) : List Byte := [x.extractLsb' 16 8, x.extractLsb' 8 8, x.extractLsb' 0 8]

def bytes32 (x : BitVec 32) : List Byte :=
  [x.extractLsb' 24 8, x.extractLsb' 16 8, x.extractLsb' 8 8, x.extractLsb' 0 8]

/-- A boolean field: 0x00 or 0x01. -/
def byteOfBool (b : Bool) : Byte := if b then 1 else 0

/-- A direction field: 0xFF, 0x00, 0x01. -/
def byteOfDir (d : Dir) : Byte :=
  match d with
  | .down => 0xFF
  | .still => 0
  | .up => 1

/-- The byte of a record at an offset. -/
def byteAt (d : List Byte) (i : Nat) : Byte := d.getD i 0

/-- The 2-byte field at an offset. -/
def field16 (d : List Byte) (i : Nat) : BitVec 16 := byteAt d i ++ byteAt d (i + 1)

/-- The 3-byte field at an offset. -/
def field24 (d : List Byte) (i : Nat) : BitVec 24 := byteAt d i ++ (byteAt d (i + 1) ++ byteAt d (i + 2))

/-- The 4-byte field at an offset. -/
def field32 (d : List Byte) (i : Nat) : BitVec 32 := field16 d i ++ field16 d (i + 2)

/-- Sixteen bytes from an offset on. -/
def field16x8 (d : List Byte) (i : Nat) : Vector Byte 16 := Vector.ofFn fun j : Fin 16 => byteAt d (i + j.val)

end Sys2Proof.Machine
end

