-- ==== Sys2Proof/Machine/Flags.lean ====
section
/-! DEFINITION. Every status flag of 10_state.md R160: how level, latch and irq change (45_interrupts.md R800, R801,
R804), and how display_en and vsync change (42_video_engine.md R520, R525). The flags tone_out and noise_out are
computed in Machine/Sound.lean by the generators that own them; faulted and refused in Machine/Ops.lean. -/

namespace Sys2Proof.Machine

/-! ## The interrupt line -/

/-- The OR over k of (latch[k] and enable[k]) (R801). -/
def Intr.wanted (i : Intr) : Bool :=
  (i.latch[0] && i.enable[0]) || (i.latch[1] && i.enable[1]) ||
  (i.latch[2] && i.enable[2]) || (i.latch[3] && i.enable[3])

/-- The event of a change of the line. -/
def irqEvent (on : Bool) : Event := if on then .irqRequest else .irqClear

/-- IrqUpdate (R801): the line follows the enabled latches, and a change of it is told to the CPU. -/
def irqUpdate (s : State) : State :=
  if s.intr.wanted = s.intr.irq then s
  else (s.setIntr { s.intr with irq := s.intr.wanted }).emit (irqEvent s.intr.wanted)

/-- The level and latch part of IntSetLevel: a falling edge latches, enabled or not. -/
def Intr.drive (i : Intr) (k : Fin 4) (v : Bool) : Intr :=
  { i with
    level := i.level.set k v
    latch := if i.level[k] && !v then i.latch.set k true else i.latch }

/-- IntSetLevel(k, v) (R800). -/
def intSetLevel (k : Fin 4) (v : Bool) (s : State) : State :=
  irqUpdate (s.setIntr (s.intr.drive k v))

/-- The periodic timer's part of IntDividerTick (R804). -/
def timerTick (s : State) : State :=
  let n := s.intr.timerCnt + 1
  if s.params.timerHalf ≤ n.toNat then
    intSetLevel 0 (!s.intr.level[0]) (s.setIntr { s.intr with timerCnt := 0 })
  else s.setIntr { s.intr with timerCnt := n }

/-- The 1 Hz clock's part of IntDividerTick (R804). -/
def onehzTick (s : State) : State :=
  let n := s.intr.onehzCnt + 1
  if s.clk.onehzHalf.toNat ≤ n.toNat then
    intSetLevel 1 (!s.intr.level[1]) (s.setIntr { s.intr with onehzCnt := 0 })
  else s.setIntr { s.intr with onehzCnt := n }

/-- IntDividerTick (R804): the timer before the 1 Hz clock (60_exceptions.md R908). -/
def intDividerTick (s : State) : State := onehzTick (timerTick s)

/-- INT_STATUS (30_encoding.md R323): bit 2k = level[k], bit 2k+1 = latch[k]. -/
def Intr.status (i : Intr) : Byte :=
  BitVec.ofBool i.latch[3] ++ (BitVec.ofBool i.level[3] ++ (BitVec.ofBool i.latch[2] ++ (BitVec.ofBool i.level[2] ++
  (BitVec.ofBool i.latch[1] ++ (BitVec.ofBool i.level[1] ++ (BitVec.ofBool i.latch[0] ++ BitVec.ofBool i.level[0]))))))

/-- The bits an INT_CTRL write stores (30_encoding.md R322, R810): EN_k = v[2k], and ACK_k = v[2k+1] clears latch[k]. -/
def Intr.control (i : Intr) (v : Byte) : Intr :=
  { i with
    enable := Vector.ofFn fun k : Fin 4 => v.getLsbD (2 * k.val)
    latch := Vector.ofFn fun k : Fin 4 => i.latch[k] && !v.getLsbD (2 * k.val + 1) }

/-! ## The display flags -/

/-- VsyncCheck(s) (42_video_engine.md R525). -/
def vsyncCheck (s : State) : State :=
  let v : Bool := s.vid.vm = 0
  if v = s.vid.vsync then s
  else (s.setVid { s.vid with vsync := v }).emit (.vsync v s.vid.slot)

/-- The opening test of Margins: at slot max(LM, 8) the display opens, and vsync is checked (R520). -/
def marginOpen (s : State) : State :=
  if s.vid.slot.toNat = max s.vid.lm.toNat 8 then vsyncCheck (s.setVid { s.vid with displayEn := true }) else s

/-- The closing test of Margins: entering slot RM closes the display (R520). -/
def marginClose (s : State) : State :=
  if s.vid.slot = s.vid.rm then s.setVid { s.vid with displayEn := false } else s

/-- Margins(s), for a slot past 7: the opening test, then the closing test, as the pseudocode of R520 and the table of R521
have them. Row D27 of 92_eei_decisions.md words the order the other way round; that file says of itself that the rules hold
the normative text, so the rule's order stands. -/
def margins (s : State) : State := marginClose (marginOpen s)

end Sys2Proof.Machine
end

