-- ==== Sys2Proof/Machine/Reset.lean ====
section
/-! DEFINITION. RESET (70_reset_and_hazards.md R1000) and construction (40_scheduler.md R401). -/

namespace Sys2Proof.Machine

/-- Every field of R102, R110, R120 and R130 at its reset value (R1000). The parameters, the collaborator's
memories, the outputs and the inputs are kept; a held access and a slot step in progress are dropped. -/
def powerOnUnits (s : State) : State :=
  ((((s.setClk Clk.reset).setVid Vid.reset).setSnd Snd.reset).setIntr Intr.reset).setSlotOpen false

/-- RESET's effect (R1000): IrqClear is emitted where the line was up. -/
def resetBlock (s : State) : State :=
  if s.intr.irq then (powerOnUnits s).emit .irqClear else powerOnUnits s

/-- RESET (R1000). It is accepted in every state, faulted ones included. -/
def execReset (s : State) : Host.Outcome State Fault Refusal := .next (complete (resetBlock s))

/-- Construction (R401, R1001): the power-on state, or ConfigurationError CE5 where a parameter is outside its
legal values. -/
def construct (p : Params) : Except ConfigError State :=
  if p.legal then .ok (State.powerOn p) else .error .ce5

end Sys2Proof.Machine
end

