-- ==== Sys2Proof/Machine/Interrupts.lean ====
section
/-! DEFINITION. The transactions of the interrupt latch unit (45_interrupts.md R805, R810, R811). -/

namespace Sys2Proof.Machine

/-- INT_CTRL (R810): the enables and acknowledgements of one write, then IrqUpdate once. -/
def intCtrl (v : Byte) (s : State) : State := irqUpdate (s.setIntr (s.intr.control v))

/-- INT_STATUS (R811). -/
def intStatus (s : State) : Byte := s.intr.status

/-- EXT2 (R805). -/
def ext2 (level : Bool) (s : State) : State := intSetLevel 3 level s

/-- PW_INT_CTRL (R810). -/
def execPwIntCtrl (data : Byte) (s : State) : Host.Outcome State Fault Refusal := perform (intCtrl data) s

/-- PR_INT_STATUS (R811). -/
def execPrIntStatus (s : State) : Host.Outcome State Fault Refusal := answerByte intStatus s

/-- EXT2 (R805). -/
def execExt2 (level : Bool) (s : State) : Host.Outcome State Fault Refusal := perform (ext2 level) s

end Sys2Proof.Machine
end

