-- ==== Sys2Proof/Machine/Sound.lean ====
section
/-! DEFINITION. The sound synthesizer (44_sound.md): register writes and reads (R700 to R716), the generators (R721
to R728), the mixer (R740 to R744), and SOUND_TICK (R730). -/

namespace Sys2Proof.Machine

/-! ## Register writes -/

/-- reg[r] <- v: every bit is stored (R716). -/
def Snd.store (n : Snd) (r : Fin 16) (v : Byte) : Snd := { n with reg := n.reg.set r v }

/-- NoiseWidthChange (R725): the LFSR is masked to the current width, and a zero result becomes all ones. -/
def Snd.noiseWidthChange (n : Snd) : Snd :=
  let x := n.lfsr &&& lfsrMask n.width
  { n with lfsr := if x = 0 then lfsrMask n.width else x }

/-- EnvRestart (R726). -/
def Snd.envRestart (n : Snd) : Snd :=
  { n with
    envPos := if n.att then 0 else 31
    envDir := if n.att then .up else .down
    envCnt := n.ep }

/-- The effect of a PW to sound register r: the store, and for registers 4 and 9 the change it performs at once
(R704, R709). -/
def Snd.write (n : Snd) (r : Fin 16) (v : Byte) : Snd :=
  match r with
  | 4 => (n.store 4 v).noiseWidthChange
  | 9 => (n.store 9 v).envRestart
  | r => n.store r v

/-- A PW to a sound register, as an operation on the machine. -/
def soundWrite (r : Fin 16) (v : Byte) (s : State) : State := s.setSnd (s.snd.write r v)

/-- A PR of a sound register (R716). -/
def soundRead (r : Fin 16) (s : State) : Byte := s.snd.reg[r]

/-! ## The generators -/

/-- The new count of Countdown (R721), and whether the generator fires. -/
def countdown {w : Nat} (cnt period : BitVec w) : BitVec w × Bool :=
  if cnt = 0 then (period, true) else (cnt - 1, false)

/-- ToneStep(c) (R722). -/
def Snd.toneStep (n : Snd) (c : Fin 3) : Snd :=
  { n with
    toneCnt := n.toneCnt.set c (countdown n.toneCnt[c] (n.period c)).1
    toneOut := if (countdown n.toneCnt[c] (n.period c)).2 then n.toneOut.set c (!n.toneOut[c]) else n.toneOut }

/-- TAP(W) (R724). -/
def noiseTap (w : Nat) : Nat :=
  match w with
  | 4 => 3
  | 5 => 3
  | 7 => 6
  | 9 => 5
  | 11 => 9
  | 15 => 14
  | _ => 14

/-- The new low bit of LfsrShift (R724). -/
def lfsrBit (w : Nat) (x : BitVec 17) : Bool := x.getLsbD (w - 1) ^^ x.getLsbD (noiseTap w - 1)

/-- The register after LfsrShift (R724). -/
def lfsrNext (w : Nat) (x : BitVec 17) : BitVec 17 :=
  ((x <<< 1) ||| (BitVec.ofBool (lfsrBit w x)).setWidth 17) &&& lfsrMask w

/-- NoiseStep (R723). -/
def Snd.noiseStep (n : Snd) : Snd :=
  if n.noiseCnt = 0 then
    { n with noiseCnt := n.nf, noiseOut := lfsrBit n.width n.lfsr, lfsr := lfsrNext n.width n.lfsr }
  else { n with noiseCnt := n.noiseCnt - 1 }

/-- −dir. -/
def Dir.neg : Dir → Dir
  | .down => .up
  | .still => .still
  | .up => .down

/-- A direction as a number. -/
def Dir.toInt : Dir → Int
  | .down => -1
  | .still => 0
  | .up => 1

/-- Overrun (R728): the new position and direction, by CONT, HOLD and ALT. -/
def overrun (cont hold alt att : Bool) (pos : BitVec 5) (dir : Dir) : BitVec 5 × Dir :=
  match cont, hold, alt with
  | false, _, _ => (0, .still)
  | true, false, false => (if att then 0 else 31, dir)
  | true, false, true => (pos, dir.neg)
  | true, true, false => (pos, .still)
  | true, true, true => (31 - pos, .still)

/-- The ramp's move when the envelope fires (R727). -/
def Snd.envMove (n : Snd) : Snd :=
  let cand := (n.envPos.toNat : Int) + n.envDir.toInt
  if 0 ≤ cand ∧ cand ≤ 31 then { n with envPos := BitVec.ofInt 5 cand }
  else
    { n with
      envPos := (overrun n.cont n.hold n.alt n.att n.envPos n.envDir).1
      envDir := (overrun n.cont n.hold n.alt n.att n.envPos n.envDir).2 }

/-- EnvStep (R727). -/
def Snd.envStep (n : Snd) : Snd :=
  if n.envCnt = 0 then Snd.envMove { n with envCnt := n.ep } else { n with envCnt := n.envCnt - 1 }

/-- The generators' part of a tick, in the order of R730: tones 0, 1, 2, noise, envelope. -/
def Snd.tick (n : Snd) : Snd := ((((n.toneStep 0).toneStep 1).toneStep 2).noiseStep).envStep

/-! ## Amplitude and mixer -/

/-- Gate(s, c) (R743). -/
def Snd.gate (n : Snd) (side : Fin 2) (c : Fin 3) : Bool :=
  (n.toneOut[c] || n.td side c) && (n.noiseOut || n.nd side c)

/-- Contribution(s, c) (R740): DAC mode first (R742), then the gate, then the amplitude table (R741). -/
def contribution (p : Params) (n : Snd) (side : Fin 2) (c : Fin 3) : Nat :=
  let v := n.lev side c
  if v.getLsbD 6 then (v.extractLsb' 0 6).toNat * p.dacGain
  else if n.gate side c then
    p.ampTable.getD (if v.getLsbD 4 then n.envPos.toNat / 2 else (v.extractLsb' 0 4).toNat) 0
  else 0

/-- Side(s) (R744). -/
def sideLevel (p : Params) (n : Snd) (side : Fin 2) : Nat :=
  contribution p n side 0 + contribution p n side 1 + contribution p n side 2

/-- The sample of the present state, left first (R744). -/
def sampleEvent (p : Params) (n : Snd) : Event :=
  .sample (BitVec.ofNat 16 (sideLevel p n 0)) (BitVec.ofNat 16 (sideLevel p n 1))

/-- The sample of the tick goes out (R730). -/
def emitSample (s : State) : State := s.emit (sampleEvent s.params s.snd)

/-- SOUND_TICK's effect (R730): the generators, then the dividers, then the sample. -/
def soundTick (s : State) : State := emitSample (intDividerTick (s.setSnd s.snd.tick))

/-! ## The transactions -/

/-- PW_SND_R0 (R700). -/
def execPwSndR0 (data : Byte) (s : State) : Host.Outcome State Fault Refusal := perform (soundWrite 0 data) s

/-- PR_SND_R0 (R716). -/
def execPrSndR0 (s : State) : Host.Outcome State Fault Refusal := answerByte (soundRead 0) s

/-- PW_SND_R1 (R701). -/
def execPwSndR1 (data : Byte) (s : State) : Host.Outcome State Fault Refusal := perform (soundWrite 1 data) s

/-- PR_SND_R1 (R716). -/
def execPrSndR1 (s : State) : Host.Outcome State Fault Refusal := answerByte (soundRead 1) s

/-- PW_SND_R2 (R702). -/
def execPwSndR2 (data : Byte) (s : State) : Host.Outcome State Fault Refusal := perform (soundWrite 2 data) s

/-- PR_SND_R2 (R716). -/
def execPrSndR2 (s : State) : Host.Outcome State Fault Refusal := answerByte (soundRead 2) s

/-- PW_SND_R3 (R703). -/
def execPwSndR3 (data : Byte) (s : State) : Host.Outcome State Fault Refusal := perform (soundWrite 3 data) s

/-- PR_SND_R3 (R716). -/
def execPrSndR3 (s : State) : Host.Outcome State Fault Refusal := answerByte (soundRead 3) s

/-- PW_SND_R4 (R704). -/
def execPwSndR4 (data : Byte) (s : State) : Host.Outcome State Fault Refusal := perform (soundWrite 4 data) s

/-- PR_SND_R4 (R716). -/
def execPrSndR4 (s : State) : Host.Outcome State Fault Refusal := answerByte (soundRead 4) s

/-- PW_SND_R5 (R705). -/
def execPwSndR5 (data : Byte) (s : State) : Host.Outcome State Fault Refusal := perform (soundWrite 5 data) s

/-- PR_SND_R5 (R716). -/
def execPrSndR5 (s : State) : Host.Outcome State Fault Refusal := answerByte (soundRead 5) s

/-- PW_SND_R6 (R706). -/
def execPwSndR6 (data : Byte) (s : State) : Host.Outcome State Fault Refusal := perform (soundWrite 6 data) s

/-- PR_SND_R6 (R716). -/
def execPrSndR6 (s : State) : Host.Outcome State Fault Refusal := answerByte (soundRead 6) s

/-- PW_SND_R7 (R707). -/
def execPwSndR7 (data : Byte) (s : State) : Host.Outcome State Fault Refusal := perform (soundWrite 7 data) s

/-- PR_SND_R7 (R716). -/
def execPrSndR7 (s : State) : Host.Outcome State Fault Refusal := answerByte (soundRead 7) s

/-- PW_SND_R8 (R708). -/
def execPwSndR8 (data : Byte) (s : State) : Host.Outcome State Fault Refusal := perform (soundWrite 8 data) s

/-- PR_SND_R8 (R716). -/
def execPrSndR8 (s : State) : Host.Outcome State Fault Refusal := answerByte (soundRead 8) s

/-- PW_SND_R9 (R709). -/
def execPwSndR9 (data : Byte) (s : State) : Host.Outcome State Fault Refusal := perform (soundWrite 9 data) s

/-- PR_SND_R9 (R716). -/
def execPrSndR9 (s : State) : Host.Outcome State Fault Refusal := answerByte (soundRead 9) s

/-- PW_SND_R10 (R710). -/
def execPwSndR10 (data : Byte) (s : State) : Host.Outcome State Fault Refusal := perform (soundWrite 10 data) s

/-- PR_SND_R10 (R716). -/
def execPrSndR10 (s : State) : Host.Outcome State Fault Refusal := answerByte (soundRead 10) s

/-- PW_SND_R11 (R711). -/
def execPwSndR11 (data : Byte) (s : State) : Host.Outcome State Fault Refusal := perform (soundWrite 11 data) s

/-- PR_SND_R11 (R716). -/
def execPrSndR11 (s : State) : Host.Outcome State Fault Refusal := answerByte (soundRead 11) s

/-- PW_SND_R12 (R712). -/
def execPwSndR12 (data : Byte) (s : State) : Host.Outcome State Fault Refusal := perform (soundWrite 12 data) s

/-- PR_SND_R12 (R716). -/
def execPrSndR12 (s : State) : Host.Outcome State Fault Refusal := answerByte (soundRead 12) s

/-- PW_SND_R13 (R713). -/
def execPwSndR13 (data : Byte) (s : State) : Host.Outcome State Fault Refusal := perform (soundWrite 13 data) s

/-- PR_SND_R13 (R716). -/
def execPrSndR13 (s : State) : Host.Outcome State Fault Refusal := answerByte (soundRead 13) s

/-- PW_SND_R14 (R714). -/
def execPwSndR14 (data : Byte) (s : State) : Host.Outcome State Fault Refusal := perform (soundWrite 14 data) s

/-- PR_SND_R14 (R716). -/
def execPrSndR14 (s : State) : Host.Outcome State Fault Refusal := answerByte (soundRead 14) s

/-- PW_SND_R15 (R715). -/
def execPwSndR15 (data : Byte) (s : State) : Host.Outcome State Fault Refusal := perform (soundWrite 15 data) s

/-- PR_SND_R15 (R716). -/
def execPrSndR15 (s : State) : Host.Outcome State Fault Refusal := answerByte (soundRead 15) s

/-- SOUND_TICK (R730). Issued alone it touches neither the accumulators nor slot_count (30_encoding.md R303). -/
def execSoundTick (s : State) : Host.Outcome State Fault Refusal := perform soundTick s

end Sys2Proof.Machine
end

