-- ==== Sys2Proof/Machine/Renderers.lean ====
section
/-! DEFINITION. The 44 renderers of 43_video_renderers.md: the shared steps (R602 to R612), one definition per
renderer (R620 to R663), the dispatch (R600, R601), and the meaning of a renderer's row run alone (DESIGN CHOICE, log 3). -/

namespace Sys2Proof.Machine

/-! ## Fetches and the floating bus (R610, R612) -/

/-- VRead(a): past LAST_FETCH_SLOT the byte is the one on the bus; before, it is read and drives the bus. -/
def vread (a : Half) (s : State) : Byte × State :=
  if s.params.lastFetchSlot < s.vid.slot.toNat then (s.vid.busLast, s)
  else
    let b := Memory.read s.mem a
    (b, s.setVid { s.vid with busLast := b })

/-- VFetch(ld1): the byte at LD1, which then moves on by 1. -/
def vfetch1 (s : State) : Byte × State :=
  if s.params.lastFetchSlot < s.vid.slot.toNat then (s.vid.busLast, s)
  else
    let b := Memory.read s.mem s.vid.ld1
    (b, s.setVid { s.vid with busLast := b, ld1 := s.vid.ld1 + 1 })

/-- VFetch(ld2): the byte at LD2, which then moves on by 1. -/
def vfetch2 (s : State) : Byte × State :=
  if s.params.lastFetchSlot < s.vid.slot.toNat then (s.vid.busLast, s)
  else
    let b := Memory.read s.mem s.vid.ld2
    (b, s.setVid { s.vid with busLast := b, ld2 := s.vid.ld2 + 1 })

/-! ## Decoding, palette and alternate indicators (R602 to R605) -/

/-- Pal(i) (R603): the LPB's palette for 0..7, the FIXBIAS bank for 8..15. -/
def Vid.colour (v : Vid) (i : BitVec 4) : Byte :=
  if i.getLsbD 3 then v.fixbias.extractLsb' 0 5 ++ i.extractLsb' 0 3 else v.pal (i.extractLsb' 0 3)

/-- A palette index from its bits, most significant first. -/
def indexOf (b3 b2 b1 b0 : Bool) : BitVec 4 :=
  BitVec.ofBool b3 ++ (BitVec.ofBool b2 ++ (BitVec.ofBool b1 ++ BitVec.ofBool b0))

/-- The palette indices of a byte in 2-colour mode: b[7−i] for i = 0..7 (R602). -/
def indices2 (b : Byte) : List (BitVec 4) :=
  [7, 6, 5, 4, 3, 2, 1, 0].map fun j => indexOf false false false (b.getLsbD j)

/-- The palette indices of a byte in 4-colour mode: b[7−i] + 2·b[3−i] for i = 0..3 (R602). -/
def indices4 (b : Byte) : List (BitVec 4) :=
  [3, 2, 1, 0].map fun j => indexOf false false (b.getLsbD j) (b.getLsbD (j + 4))

/-- The palette indices of a byte in 16-colour mode (R602). -/
def indices16 (b : Byte) : List (BitVec 4) :=
  [indexOf (b.getLsbD 1) (b.getLsbD 5) (b.getLsbD 3) (b.getLsbD 7),
   indexOf (b.getLsbD 0) (b.getLsbD 4) (b.getLsbD 2) (b.getLsbD 6)]

/-- Dec(cm, b, x) (R602): the colour codes of a byte, left to right. -/
def Vid.dec (v : Vid) (cm : Nat) (b : Byte) (x : BitVec 4) : List Byte :=
  match cm with
  | 0 => (indices2 b).map fun i => v.colour (i ^^^ x)
  | 1 => (indices4 b).map fun i => v.colour (i ^^^ x)
  | 2 => (indices16 b).map fun i => v.colour (i ^^^ x)
  | _ => [b]

/-- PixAlt(b, lsb, msb) (R604). -/
def pixAlt (b : Byte) (lsb msb : Bool) : BitVec 4 :=
  indexOf false (lsb && b.getLsbD 0) (msb && b.getLsbD 7) false

/-- ChrAlt(c, a0, a1) (R605). -/
def chrAlt (c : Byte) (a0 a1 : Bool) : BitVec 4 :=
  indexOf false (a1 && c.getLsbD 6) (a0 && c.getLsbD 7) false

/-- The font address of a character (R606): LD2 with its low k bits replaced by the character code's. -/
def fontAddr (k : Nat) (ld2 : Half) (c : Byte) : Half :=
  ((ld2 >>> k) <<< k) ||| BitVec.ofNat 16 (c.toNat % 2 ^ k)

/-- A pixel group (R607): the count of colour codes, then the codes. -/
def groupOf (px : List Byte) : List Byte := BitVec.ofNat 8 px.length :: px

/-! ## The four shapes of a renderer -/

/-- A renderer of the PIXEL family (R624 to R631): two bytes at LD1. -/
def pixelGroup (cm : Nat) (lsb msb : Bool) (s : State) : List Byte × State :=
  let (b0, s1) := vfetch1 s
  let (b1, s2) := vfetch1 s1
  (groupOf (s.vid.dec cm b0 (pixAlt b0 lsb msb) ++ s.vid.dec cm b1 (pixAlt b1 lsb msb)), s2)

/-- A renderer of the LPIXEL family (R632 to R639): one byte at LD1. -/
def lpixelGroup (cm : Nat) (lsb msb : Bool) (s : State) : List Byte × State :=
  let (b0, s1) := vfetch1 s
  (groupOf (s.vid.dec cm b0 (pixAlt b0 lsb msb)), s1)

/-- A renderer of a character family (R640 to R663): a character code at LD1, then its font byte. -/
def charGroup (k cm : Nat) (a0 a1 : Bool) (s : State) : List Byte × State :=
  let (c, s1) := vfetch1 s
  let (f, s2) := vread (fontAddr k s1.vid.ld2 c) s1
  (groupOf (s.vid.dec cm f (chrAlt c a0 a1)), s2)

/-- A group of one colour, with no fetch. -/
def plainGroup (b : Byte) (s : State) : List Byte × State := (groupOf [b], s)

/-! ## The renderers -/

/-- BORDER (R620). -/
def renderBorder (s : State) : List Byte × State := plainGroup s.vid.border s

/-- SYNC (R621). -/
def renderSync (s : State) : List Byte × State := plainGroup 0 s

/-- INVALID (R622). -/
def renderInvalid (s : State) : List Byte × State := plainGroup s.vid.border s

/-- ATTRIBUTE (R623). -/
def renderAttrib (s : State) : List Byte × State :=
  let (a, s1) := vfetch1 s
  let (m, s2) := vfetch2 s1
  (groupOf ([7, 6, 5, 4, 3, 2, 1, 0].map fun j =>
    s.vid.colour (if m.getLsbD j then a.extractLsb' 0 4 else a.extractLsb' 4 4)), s2)

/-- PIXEL_2C (R624). -/
def renderPixel_2c (s : State) : List Byte × State := pixelGroup 0 false false s

/-- PIXEL_2C_MSB (R625). -/
def renderPixel_2c_msb (s : State) : List Byte × State := pixelGroup 0 false true s

/-- PIXEL_2C_LSB (R626). -/
def renderPixel_2c_lsb (s : State) : List Byte × State := pixelGroup 0 true false s

/-- PIXEL_2C_LSB_MSB (R627). -/
def renderPixel_2c_lsb_msb (s : State) : List Byte × State := pixelGroup 0 true true s

/-- PIXEL_4C (R628). -/
def renderPixel_4c (s : State) : List Byte × State := pixelGroup 1 false false s

/-- PIXEL_4C_LSB (R629). -/
def renderPixel_4c_lsb (s : State) : List Byte × State := pixelGroup 1 true false s

/-- PIXEL_16C (R630). -/
def renderPixel_16c (s : State) : List Byte × State := pixelGroup 2 false false s

/-- PIXEL_256C (R631). -/
def renderPixel_256c (s : State) : List Byte × State := pixelGroup 3 false false s

/-- LPIXEL_2C (R632). -/
def renderLpixel_2c (s : State) : List Byte × State := lpixelGroup 0 false false s

/-- LPIXEL_2C_MSB (R633). -/
def renderLpixel_2c_msb (s : State) : List Byte × State := lpixelGroup 0 false true s

/-- LPIXEL_2C_LSB (R634). -/
def renderLpixel_2c_lsb (s : State) : List Byte × State := lpixelGroup 0 true false s

/-- LPIXEL_2C_LSB_MSB (R635). -/
def renderLpixel_2c_lsb_msb (s : State) : List Byte × State := lpixelGroup 0 true true s

/-- LPIXEL_4C (R636). -/
def renderLpixel_4c (s : State) : List Byte × State := lpixelGroup 1 false false s

/-- LPIXEL_4C_LSB (R637). -/
def renderLpixel_4c_lsb (s : State) : List Byte × State := lpixelGroup 1 true false s

/-- LPIXEL_16C (R638). -/
def renderLpixel_16c (s : State) : List Byte × State := lpixelGroup 2 false false s

/-- LPIXEL_256C (R639). -/
def renderLpixel_256c (s : State) : List Byte × State := lpixelGroup 3 false false s

/-- CH256_2C (R640). -/
def renderCh256_2c (s : State) : List Byte × State := charGroup 8 0 false false s

/-- CH256_2C_A0 (R641). -/
def renderCh256_2c_a0 (s : State) : List Byte × State := charGroup 8 0 true false s

/-- CH256_2C_A1 (R642). -/
def renderCh256_2c_a1 (s : State) : List Byte × State := charGroup 8 0 false true s

/-- CH256_2C_A0_A1 (R643). -/
def renderCh256_2c_a0_a1 (s : State) : List Byte × State := charGroup 8 0 true true s

/-- CH256_4C (R644). -/
def renderCh256_4c (s : State) : List Byte × State := charGroup 8 1 false false s

/-- CH256_4C_A1 (R645). -/
def renderCh256_4c_a1 (s : State) : List Byte × State := charGroup 8 1 false true s

/-- CH256_16C (R646). -/
def renderCh256_16c (s : State) : List Byte × State := charGroup 8 2 false false s

/-- CH256_256C (R647). -/
def renderCh256_256c (s : State) : List Byte × State := charGroup 8 3 false false s

/-- CH128_2C (R648). -/
def renderCh128_2c (s : State) : List Byte × State := charGroup 7 0 false false s

/-- CH128_2C_A0 (R649). -/
def renderCh128_2c_a0 (s : State) : List Byte × State := charGroup 7 0 true false s

/-- CH128_2C_A1 (R650). -/
def renderCh128_2c_a1 (s : State) : List Byte × State := charGroup 7 0 false true s

/-- CH128_2C_A0_A1 (R651). -/
def renderCh128_2c_a0_a1 (s : State) : List Byte × State := charGroup 7 0 true true s

/-- CH128_4C (R652). -/
def renderCh128_4c (s : State) : List Byte × State := charGroup 7 1 false false s

/-- CH128_4C_A1 (R653). -/
def renderCh128_4c_a1 (s : State) : List Byte × State := charGroup 7 1 false true s

/-- CH128_16C (R654). -/
def renderCh128_16c (s : State) : List Byte × State := charGroup 7 2 false false s

/-- CH128_256C (R655). -/
def renderCh128_256c (s : State) : List Byte × State := charGroup 7 3 false false s

/-- CH64_2C (R656). -/
def renderCh64_2c (s : State) : List Byte × State := charGroup 6 0 false false s

/-- CH64_2C_A0 (R657). -/
def renderCh64_2c_a0 (s : State) : List Byte × State := charGroup 6 0 true false s

/-- CH64_2C_A1 (R658). -/
def renderCh64_2c_a1 (s : State) : List Byte × State := charGroup 6 0 false true s

/-- CH64_2C_A0_A1 (R659). -/
def renderCh64_2c_a0_a1 (s : State) : List Byte × State := charGroup 6 0 true true s

/-- CH64_4C (R660). -/
def renderCh64_4c (s : State) : List Byte × State := charGroup 6 1 false false s

/-- CH64_4C_A1 (R661). -/
def renderCh64_4c_a1 (s : State) : List Byte × State := charGroup 6 1 false true s

/-- CH64_16C (R662). -/
def renderCh64_16c (s : State) : List Byte × State := charGroup 6 2 false false s

/-- CH64_256C (R663). -/
def renderCh64_256c (s : State) : List Byte × State := charGroup 6 3 false false s

/-! ## Dispatch (R600, R601) -/

/-- The group a renderer computes, and the state it leaves. -/
def runRenderer (r : Renderer) (s : State) : List Byte × State :=
  match r with
  | .border => renderBorder s
  | .sync => renderSync s
  | .invalid => renderInvalid s
  | .attrib => renderAttrib s
  | .pixel_2c => renderPixel_2c s
  | .pixel_2c_msb => renderPixel_2c_msb s
  | .pixel_2c_lsb => renderPixel_2c_lsb s
  | .pixel_2c_lsb_msb => renderPixel_2c_lsb_msb s
  | .pixel_4c => renderPixel_4c s
  | .pixel_4c_lsb => renderPixel_4c_lsb s
  | .pixel_16c => renderPixel_16c s
  | .pixel_256c => renderPixel_256c s
  | .lpixel_2c => renderLpixel_2c s
  | .lpixel_2c_msb => renderLpixel_2c_msb s
  | .lpixel_2c_lsb => renderLpixel_2c_lsb s
  | .lpixel_2c_lsb_msb => renderLpixel_2c_lsb_msb s
  | .lpixel_4c => renderLpixel_4c s
  | .lpixel_4c_lsb => renderLpixel_4c_lsb s
  | .lpixel_16c => renderLpixel_16c s
  | .lpixel_256c => renderLpixel_256c s
  | .ch256_2c => renderCh256_2c s
  | .ch256_2c_a0 => renderCh256_2c_a0 s
  | .ch256_2c_a1 => renderCh256_2c_a1 s
  | .ch256_2c_a0_a1 => renderCh256_2c_a0_a1 s
  | .ch256_4c => renderCh256_4c s
  | .ch256_4c_a1 => renderCh256_4c_a1 s
  | .ch256_16c => renderCh256_16c s
  | .ch256_256c => renderCh256_256c s
  | .ch128_2c => renderCh128_2c s
  | .ch128_2c_a0 => renderCh128_2c_a0 s
  | .ch128_2c_a1 => renderCh128_2c_a1 s
  | .ch128_2c_a0_a1 => renderCh128_2c_a0_a1 s
  | .ch128_4c => renderCh128_4c s
  | .ch128_4c_a1 => renderCh128_4c_a1 s
  | .ch128_16c => renderCh128_16c s
  | .ch128_256c => renderCh128_256c s
  | .ch64_2c => renderCh64_2c s
  | .ch64_2c_a0 => renderCh64_2c_a0 s
  | .ch64_2c_a1 => renderCh64_2c_a1 s
  | .ch64_2c_a0_a1 => renderCh64_2c_a0_a1 s
  | .ch64_4c => renderCh64_4c s
  | .ch64_4c_a1 => renderCh64_4c_a1 s
  | .ch64_16c => renderCh64_16c s
  | .ch64_256c => renderCh64_256c s

/-- RenderKey (R340, R601), from the state after the margin rules of the slot. -/
def renderKey (s : State) : BitVec 10 :=
  BitVec.ofBool (s.vid.displayEn && decide (8 ≤ s.vid.slot.toNat)) ++ (s.vid.vm ++ (s.vid.cm ++
  (BitVec.ofBool s.vid.lsbAlt ++ (BitVec.ofBool s.vid.msbAlt ++
  (BitVec.ofBool s.vid.altInd0 ++ BitVec.ofBool s.vid.altInd1)))))

/-- Render(K) (R601): the unique renderer whose row matches the key. -/
def render (k : BitVec 10) (s : State) : List Byte × State := runRenderer (decodeKey k) s

/-! ## A renderer's row, run alone (DESIGN CHOICE, log 3) -/

/-- The group of a renderer run alone is what its issuer gets. A renderer is no transaction: it reads no flag of
CLK, and writes ld1, ld2 and bus_last only (R601). -/
def returnGroup (x : List Byte × State) : Host.Outcome State Fault Refusal := .next (x.2.setReply (.group x.1))

/-- BORDER run alone (R620). -/
def execBorder (s : State) : Host.Outcome State Fault Refusal := returnGroup (renderBorder s)

/-- SYNC run alone (R621). -/
def execSync (s : State) : Host.Outcome State Fault Refusal := returnGroup (renderSync s)

/-- INVALID run alone (R622). -/
def execInvalid (s : State) : Host.Outcome State Fault Refusal := returnGroup (renderInvalid s)

/-- ATTRIBUTE run alone (R623). -/
def execAttrib (s : State) : Host.Outcome State Fault Refusal := returnGroup (renderAttrib s)

/-- PIXEL_2C run alone (R624). -/
def execPixel_2c (s : State) : Host.Outcome State Fault Refusal := returnGroup (renderPixel_2c s)

/-- PIXEL_2C_MSB run alone (R625). -/
def execPixel_2c_msb (s : State) : Host.Outcome State Fault Refusal := returnGroup (renderPixel_2c_msb s)

/-- PIXEL_2C_LSB run alone (R626). -/
def execPixel_2c_lsb (s : State) : Host.Outcome State Fault Refusal := returnGroup (renderPixel_2c_lsb s)

/-- PIXEL_2C_LSB_MSB run alone (R627). -/
def execPixel_2c_lsb_msb (s : State) : Host.Outcome State Fault Refusal := returnGroup (renderPixel_2c_lsb_msb s)

/-- PIXEL_4C run alone (R628). -/
def execPixel_4c (s : State) : Host.Outcome State Fault Refusal := returnGroup (renderPixel_4c s)

/-- PIXEL_4C_LSB run alone (R629). -/
def execPixel_4c_lsb (s : State) : Host.Outcome State Fault Refusal := returnGroup (renderPixel_4c_lsb s)

/-- PIXEL_16C run alone (R630). -/
def execPixel_16c (s : State) : Host.Outcome State Fault Refusal := returnGroup (renderPixel_16c s)

/-- PIXEL_256C run alone (R631). -/
def execPixel_256c (s : State) : Host.Outcome State Fault Refusal := returnGroup (renderPixel_256c s)

/-- LPIXEL_2C run alone (R632). -/
def execLpixel_2c (s : State) : Host.Outcome State Fault Refusal := returnGroup (renderLpixel_2c s)

/-- LPIXEL_2C_MSB run alone (R633). -/
def execLpixel_2c_msb (s : State) : Host.Outcome State Fault Refusal := returnGroup (renderLpixel_2c_msb s)

/-- LPIXEL_2C_LSB run alone (R634). -/
def execLpixel_2c_lsb (s : State) : Host.Outcome State Fault Refusal := returnGroup (renderLpixel_2c_lsb s)

/-- LPIXEL_2C_LSB_MSB run alone (R635). -/
def execLpixel_2c_lsb_msb (s : State) : Host.Outcome State Fault Refusal := returnGroup (renderLpixel_2c_lsb_msb s)

/-- LPIXEL_4C run alone (R636). -/
def execLpixel_4c (s : State) : Host.Outcome State Fault Refusal := returnGroup (renderLpixel_4c s)

/-- LPIXEL_4C_LSB run alone (R637). -/
def execLpixel_4c_lsb (s : State) : Host.Outcome State Fault Refusal := returnGroup (renderLpixel_4c_lsb s)

/-- LPIXEL_16C run alone (R638). -/
def execLpixel_16c (s : State) : Host.Outcome State Fault Refusal := returnGroup (renderLpixel_16c s)

/-- LPIXEL_256C run alone (R639). -/
def execLpixel_256c (s : State) : Host.Outcome State Fault Refusal := returnGroup (renderLpixel_256c s)

/-- CH256_2C run alone (R640). -/
def execCh256_2c (s : State) : Host.Outcome State Fault Refusal := returnGroup (renderCh256_2c s)

/-- CH256_2C_A0 run alone (R641). -/
def execCh256_2c_a0 (s : State) : Host.Outcome State Fault Refusal := returnGroup (renderCh256_2c_a0 s)

/-- CH256_2C_A1 run alone (R642). -/
def execCh256_2c_a1 (s : State) : Host.Outcome State Fault Refusal := returnGroup (renderCh256_2c_a1 s)

/-- CH256_2C_A0_A1 run alone (R643). -/
def execCh256_2c_a0_a1 (s : State) : Host.Outcome State Fault Refusal := returnGroup (renderCh256_2c_a0_a1 s)

/-- CH256_4C run alone (R644). -/
def execCh256_4c (s : State) : Host.Outcome State Fault Refusal := returnGroup (renderCh256_4c s)

/-- CH256_4C_A1 run alone (R645). -/
def execCh256_4c_a1 (s : State) : Host.Outcome State Fault Refusal := returnGroup (renderCh256_4c_a1 s)

/-- CH256_16C run alone (R646). -/
def execCh256_16c (s : State) : Host.Outcome State Fault Refusal := returnGroup (renderCh256_16c s)

/-- CH256_256C run alone (R647). -/
def execCh256_256c (s : State) : Host.Outcome State Fault Refusal := returnGroup (renderCh256_256c s)

/-- CH128_2C run alone (R648). -/
def execCh128_2c (s : State) : Host.Outcome State Fault Refusal := returnGroup (renderCh128_2c s)

/-- CH128_2C_A0 run alone (R649). -/
def execCh128_2c_a0 (s : State) : Host.Outcome State Fault Refusal := returnGroup (renderCh128_2c_a0 s)

/-- CH128_2C_A1 run alone (R650). -/
def execCh128_2c_a1 (s : State) : Host.Outcome State Fault Refusal := returnGroup (renderCh128_2c_a1 s)

/-- CH128_2C_A0_A1 run alone (R651). -/
def execCh128_2c_a0_a1 (s : State) : Host.Outcome State Fault Refusal := returnGroup (renderCh128_2c_a0_a1 s)

/-- CH128_4C run alone (R652). -/
def execCh128_4c (s : State) : Host.Outcome State Fault Refusal := returnGroup (renderCh128_4c s)

/-- CH128_4C_A1 run alone (R653). -/
def execCh128_4c_a1 (s : State) : Host.Outcome State Fault Refusal := returnGroup (renderCh128_4c_a1 s)

/-- CH128_16C run alone (R654). -/
def execCh128_16c (s : State) : Host.Outcome State Fault Refusal := returnGroup (renderCh128_16c s)

/-- CH128_256C run alone (R655). -/
def execCh128_256c (s : State) : Host.Outcome State Fault Refusal := returnGroup (renderCh128_256c s)

/-- CH64_2C run alone (R656). -/
def execCh64_2c (s : State) : Host.Outcome State Fault Refusal := returnGroup (renderCh64_2c s)

/-- CH64_2C_A0 run alone (R657). -/
def execCh64_2c_a0 (s : State) : Host.Outcome State Fault Refusal := returnGroup (renderCh64_2c_a0 s)

/-- CH64_2C_A1 run alone (R658). -/
def execCh64_2c_a1 (s : State) : Host.Outcome State Fault Refusal := returnGroup (renderCh64_2c_a1 s)

/-- CH64_2C_A0_A1 run alone (R659). -/
def execCh64_2c_a0_a1 (s : State) : Host.Outcome State Fault Refusal := returnGroup (renderCh64_2c_a0_a1 s)

/-- CH64_4C run alone (R660). -/
def execCh64_4c (s : State) : Host.Outcome State Fault Refusal := returnGroup (renderCh64_4c s)

/-- CH64_4C_A1 run alone (R661). -/
def execCh64_4c_a1 (s : State) : Host.Outcome State Fault Refusal := returnGroup (renderCh64_4c_a1 s)

/-- CH64_16C run alone (R662). -/
def execCh64_16c (s : State) : Host.Outcome State Fault Refusal := returnGroup (renderCh64_16c s)

/-- CH64_256C run alone (R663). -/
def execCh64_256c (s : State) : Host.Outcome State Fault Refusal := returnGroup (renderCh64_256c s)

end Sys2Proof.Machine
end

