-- ==== Sys2Proof/Machine/Video.lean ====
section
/-! DEFINITION. The video slot engine (42_video_engine.md): the video port registers (R550 to R553), the LPB fetch and
commit (R510, R512), the end of a line (R535), and VIDEO_SLOT (R500). -/

namespace Sys2Proof.Machine

/-! ## The port registers -/

/-- PW FIXBIAS (R550). -/
def fixbiasWrite (v : Byte) (s : State) : State := s.setVid { s.vid with fixbias := v }

/-- PW BORDER (R551). -/
def borderWrite (v : Byte) (s : State) : State := s.setVid { s.vid with border := v }

/-- PW LPT_LO (R552): lpt_cur is not changed. -/
def lptLoWrite (v : Byte) (s : State) : State :=
  s.setVid { s.vid with lptLo := v, lptBase := lptBaseOf s.vid.lptHi v }

/-- PW LPT_HI (R553): lpt_cur is set to the new base. -/
def lptHiWrite (v : Byte) (s : State) : State :=
  s.setVid { s.vid with lptHi := v, lptBase := lptBaseOf v s.vid.lptLo, lptCur := lptBaseOf v s.vid.lptLo }

/-! ## LPB fetch and commit -/

/-- One byte of LpbFetch (R510): byte i of the LPB, read at lpt_cur + i; every video fetch drives the data bus. -/
def lpbByte (i : Nat) (s : State) : State :=
  let b := Memory.read s.mem (s.vid.lptCur + BitVec.ofNat 16 i)
  s.setVid { s.vid with lpbBuf := s.vid.lpbBuf.setIfInBounds i b, busLast := b }

/-- LpbFetch(s), for a slot 0..7 of a line that starts a block (R510). -/
def lpbFetch (s : State) : State := lpbByte (2 * s.vid.slot.toNat + 1) (lpbByte (2 * s.vid.slot.toNat) s)

/-- The commit of LineSetup, on the first line of a block (R512). -/
def Vid.commit (v : Vid) : Vid :=
  let w := { v with lpb := v.lpbBuf }
  { w with linesLeft := lineCount w.sc, ld1 := w.ld1b, ld2 := w.ld2b, needLpb := false }

/-- CHAR_K of a video mode (R512): the bytes of one font row, for the character modes. -/
def charK (vm : BitVec 3) : Option Half :=
  match vm.toNat with
  | 3 => some 256
  | 4 => some 128
  | 5 => some 64
  | _ => none

/-- LD2 of LineSetup on a continuing line (R512): the next font row in the character modes; else LD2B where VRES is 0. -/
def Vid.nextLd2 (v : Vid) : Half :=
  match charK v.vm with
  | some k => v.ld2 + k
  | none => if v.vres then v.ld2 else v.ld2b

/-- LineSetup on a continuing line of a block (R512). -/
def Vid.continueBlock (v : Vid) : Vid :=
  { v with ld1 := if v.vres then v.ld1 else v.ld1b, ld2 := v.nextLd2 }

/-- LineSetup, at the end of slot 7 (R512). -/
def lineSetup (s : State) : State :=
  s.setVid (if s.vid.needLpb then s.vid.commit else s.vid.continueBlock)

/-! ## The end of a line -/

/-- The counters and pointers of EndOfLine (R535). -/
def Vid.nextLine (v : Vid) : Vid :=
  if v.linesLeft ≤ 1 then
    if v.reload then { v with linesLeft := 0, needLpb := true, lptCur := v.lptBase, line := 0 }
    else { v with linesLeft := 0, needLpb := true, lptCur := v.lptCur + 16, line := v.line + 1 }
  else { v with linesLeft := v.linesLeft - 1, line := v.line + 1 }

/-- The line buffer goes out as one Scanline, and is emptied (R535). -/
def flushLine (s : State) : State :=
  (s.emit (.scanline s.vid.lineBuf s.vid.lineBuf.length)).setVid { s.vid with lineBuf := [] }

/-- The move to the next line (R535). -/
def stepLine (s : State) : State := s.setVid s.vid.nextLine

/-- EndOfLine (R535): the Scanline, external line 1 (45_interrupts.md R806), and the move to the next line. -/
def endOfLine (s : State) : State := stepLine (intSetLevel 2 s.vid.vint (flushLine s))

/-! ## The slot -/

/-- Slot 0 clears display_en (R500, R520). -/
def lineStart (s : State) : State :=
  if s.vid.slot = 0 then s.setVid { s.vid with displayEn := false } else s

/-- The slot's work before its group: the LPB fetch in slots 0..7, the margins after (R500). -/
def slotFetch (s : State) : State :=
  if s.vid.slot.toNat ≤ 7 then (if s.vid.needLpb then lpbFetch s else s) else margins s

/-- A group is appended to the line (R530). -/
def pushGroup (x : List Byte × State) : State :=
  x.2.setVid { x.2.vid with lineBuf := x.2.vid.lineBuf ++ x.1 }

/-- The slot's group, rendered by the key of the state after the margin rules (R500). -/
def slotGroup (s : State) : State := pushGroup (render (renderKey s) s)

/-- The slot counter's move, to 0 after EndOfLine where the slot was the last (R500). -/
def nextSlot (s : State) : State :=
  if s.vid.slot.toNat + 1 = s.params.nslot then
    (endOfLine s).setVid { (endOfLine s).vid with slot := 0 }
  else s.setVid { s.vid with slot := s.vid.slot + 1 }

/-- The end of the slot: LineSetup after slot 7, then the slot counter (R500). -/
def slotEnd (s : State) : State := nextSlot (if s.vid.slot = 7 then lineSetup s else s)

/-- VIDEO_SLOT's effect (R500). -/
def videoSlot (s : State) : State := slotEnd (slotGroup (slotFetch (lineStart s)))

/-! ## The transactions -/

/-- PW_FIXBIAS (R550). -/
def execPwFixbias (data : Byte) (s : State) : Host.Outcome State Fault Refusal := perform (fixbiasWrite data) s

/-- PR_FIXBIAS (R550). -/
def execPrFixbias (s : State) : Host.Outcome State Fault Refusal := answerByte (fun s => s.vid.fixbias) s

/-- PW_BORDER (R551). -/
def execPwBorder (data : Byte) (s : State) : Host.Outcome State Fault Refusal := perform (borderWrite data) s

/-- PR_BORDER (R551). -/
def execPrBorder (s : State) : Host.Outcome State Fault Refusal := answerByte (fun s => s.vid.border) s

/-- PW_LPT_LO (R552). -/
def execPwLptLo (data : Byte) (s : State) : Host.Outcome State Fault Refusal := perform (lptLoWrite data) s

/-- PR_LPT_LO (R552). -/
def execPrLptLo (s : State) : Host.Outcome State Fault Refusal := answerByte (fun s => s.vid.lptLo) s

/-- PW_LPT_HI (R553). -/
def execPwLptHi (data : Byte) (s : State) : Host.Outcome State Fault Refusal := perform (lptHiWrite data) s

/-- PR_LPT_HI (R553). -/
def execPrLptHi (s : State) : Host.Outcome State Fault Refusal := answerByte (fun s => s.vid.lptHi) s

/-- VIDEO_SLOT (R500). Issued alone it does not count in slot_count (30_encoding.md R303). -/
def execVideoSlot (s : State) : Host.Outcome State Fault Refusal := perform videoSlot s

end Sys2Proof.Machine
end

