-- ==== Sys2Proof/Machine/Ports.lean ====
section
/-! DEFINITION. The port map of 30_encoding.md R310 as one write and one read operation, the access a CPU I/O event
performs (40_scheduler.md R408), and the reserved ports (R361). -/

namespace Sys2Proof.Machine

/-- The effect of a PW at an offset (R310). Reserved offsets ignore the write (R361). -/
def portWrite (off : BitVec 5) (v : Byte) (s : State) : State :=
  if h : off.toNat < 16 then soundWrite ⟨off.toNat, h⟩ v s
  else
    match off.toNat with
    | 0x10 => intCtrl v s
    | 0x18 => fixbiasWrite v s
    | 0x19 => borderWrite v s
    | 0x1A => lptLoWrite v s
    | 0x1B => lptHiWrite v s
    | _ => s

/-- The byte a PR at an offset returns (R310). Reserved offsets return 0xFF (R361). -/
def portRead (off : BitVec 5) (s : State) : Byte :=
  if h : off.toNat < 16 then soundRead ⟨off.toNat, h⟩ s
  else
    match off.toNat with
    | 0x10 => intStatus s
    | 0x18 => s.vid.fixbias
    | 0x19 => s.vid.border
    | 0x1A => s.vid.lptLo
    | 0x1B => s.vid.lptHi
    | _ => 0xFF

/-- A write to a collaborator's port (R408): the collaborator's IoWrite is called, and no state of the block changes. -/
def extWrite (port data : Byte) (s : State) : State := { s with extIo := s.extIo ++ [.write port data] }

/-- A read of a collaborator's port (R408): the collaborator's IoRead is called, and its answer, a free value
(DESIGN CHOICE, log 6), is delivered to the CPU. -/
def extRead (port : Byte) (s : State) : State :=
  State.deliver { s with extIo := s.extIo ++ [.read port], ioDraws := s.ioDraws + 1 } (Config.ioRead s.ioDraws port)

/-- PerformIoAccess (R408). -/
def performIo (x : PendingIo) (s : State) : State :=
  match portOffset s.params x.port with
  | some off => if x.write then portWrite off x.data s else s.deliver (portRead off s)
  | none => if x.write then extWrite x.port x.data s else extRead x.port s

/-! ## The reserved ports (R361) -/

/-- A PW to a reserved offset changes nothing. -/
def ignoreWrite (_ : Byte) (s : State) : State := s

/-- A PR of a reserved offset returns 0xFF. -/
def reservedByte (_ : State) : Byte := 0xFF

/-- PW_RESERVED_11 (R361). -/
def execPwReserved11 (data : Byte) (s : State) : Host.Outcome State Fault Refusal := perform (ignoreWrite data) s

/-- PW_RESERVED_12 (R361). -/
def execPwReserved12 (data : Byte) (s : State) : Host.Outcome State Fault Refusal := perform (ignoreWrite data) s

/-- PW_RESERVED_13 (R361). -/
def execPwReserved13 (data : Byte) (s : State) : Host.Outcome State Fault Refusal := perform (ignoreWrite data) s

/-- PW_RESERVED_14 (R361). -/
def execPwReserved14 (data : Byte) (s : State) : Host.Outcome State Fault Refusal := perform (ignoreWrite data) s

/-- PW_RESERVED_15 (R361). -/
def execPwReserved15 (data : Byte) (s : State) : Host.Outcome State Fault Refusal := perform (ignoreWrite data) s

/-- PW_RESERVED_16 (R361). -/
def execPwReserved16 (data : Byte) (s : State) : Host.Outcome State Fault Refusal := perform (ignoreWrite data) s

/-- PW_RESERVED_17 (R361). -/
def execPwReserved17 (data : Byte) (s : State) : Host.Outcome State Fault Refusal := perform (ignoreWrite data) s

/-- PW_RESERVED_1C (R361). -/
def execPwReserved1C (data : Byte) (s : State) : Host.Outcome State Fault Refusal := perform (ignoreWrite data) s

/-- PW_RESERVED_1D (R361). -/
def execPwReserved1D (data : Byte) (s : State) : Host.Outcome State Fault Refusal := perform (ignoreWrite data) s

/-- PW_RESERVED_1E (R361). -/
def execPwReserved1E (data : Byte) (s : State) : Host.Outcome State Fault Refusal := perform (ignoreWrite data) s

/-- PW_RESERVED_1F (R361). -/
def execPwReserved1F (data : Byte) (s : State) : Host.Outcome State Fault Refusal := perform (ignoreWrite data) s

/-- PR_RESERVED_11 (R361). -/
def execPrReserved11 (s : State) : Host.Outcome State Fault Refusal := answerByte reservedByte s

/-- PR_RESERVED_12 (R361). -/
def execPrReserved12 (s : State) : Host.Outcome State Fault Refusal := answerByte reservedByte s

/-- PR_RESERVED_13 (R361). -/
def execPrReserved13 (s : State) : Host.Outcome State Fault Refusal := answerByte reservedByte s

/-- PR_RESERVED_14 (R361). -/
def execPrReserved14 (s : State) : Host.Outcome State Fault Refusal := answerByte reservedByte s

/-- PR_RESERVED_15 (R361). -/
def execPrReserved15 (s : State) : Host.Outcome State Fault Refusal := answerByte reservedByte s

/-- PR_RESERVED_16 (R361). -/
def execPrReserved16 (s : State) : Host.Outcome State Fault Refusal := answerByte reservedByte s

/-- PR_RESERVED_17 (R361). -/
def execPrReserved17 (s : State) : Host.Outcome State Fault Refusal := answerByte reservedByte s

/-- PR_RESERVED_1C (R361). -/
def execPrReserved1C (s : State) : Host.Outcome State Fault Refusal := answerByte reservedByte s

/-- PR_RESERVED_1D (R361). -/
def execPrReserved1D (s : State) : Host.Outcome State Fault Refusal := answerByte reservedByte s

/-- PR_RESERVED_1E (R361). -/
def execPrReserved1E (s : State) : Host.Outcome State Fault Refusal := answerByte reservedByte s

/-- PR_RESERVED_1F (R361). -/
def execPrReserved1F (s : State) : Host.Outcome State Fault Refusal := answerByte reservedByte s

end Sys2Proof.Machine
end

