-- ==== Sys2Proof/Machine/Wait.lean ====
section
/-! DEFINITION. The wait-state arbiter (41_wait_states.md). It holds no state: every definition here is a function of
the state it reads, and WAIT_QUERY (R458) changes none of the block's. -/

namespace Sys2Proof.Machine

/-- The access kinds of R450. -/
inductive AccessKind where
  | fetch
  | read
  | write
  | io
deriving DecidableEq, Repr

/-- P (R452): how far into its slot the CPU moment lies, in accumulator units. -/
def slotPosition (k : Clk) : Nat := (((k.rCpu : Int) - k.accCpu) % (k.rCpu : Int)).toNat

/-- Phase() (R453): the phase step, by reciprocal multiplication. -/
def phase (k : Clk) : Nat := slotPosition k * k.recip / 18446744073709551616

/-- The segment of the page of a CPU memory address (R451). -/
def pageSeg (s : State) (a : Half) : Byte := Memory.read s.pageMap (a >>> s.params.pageShift)

/-- NonContendedWait(k) (R455). -/
def nonContendedWait (c : Clk) (k : AccessKind) : Byte :=
  match c.memMode with
  | .always => c.nwait
  | .fetchOnly => if k = .fetch then c.nwait else 0
  | .never => 0

/-- CONT[2][φ], the wait of an I/O access (R456). -/
def ioWait (s : State) : Byte := s.params.contIo.getD (phase s.clk) 0

/-- The wait of a contended memory access (R454). -/
def contendedWait (s : State) (k : AccessKind) : Byte :=
  if k = .fetch then s.params.contFetch.getD (phase s.clk) 0 else s.params.contData.getD (phase s.clk) 0

/-- WaitCycles(a, k) for a memory access (R450). -/
def memWait (s : State) (k : AccessKind) (a : Half) : Byte :=
  if pageSeg s a ∈ s.params.contended then contendedWait s k else nonContendedWait s.clk k

/-- WaitCycles(a, k) (R450). For an I/O access the port does not matter (R456). -/
def waitCycles (s : State) (k : AccessKind) (a : Half) : Byte :=
  match k with
  | .io => ioWait s
  | k => memWait s k a

/-- WAIT_QUERY (R458): the answer, one byte, and no state written. -/
def waitQuery (k : AccessKind) (a : Half) (s : State) : Host.Outcome State Fault Refusal :=
  acceptConfigured (fun s => s.setReply (.byte (waitCycles s k a))) s

/-- WAIT_QUERY_FETCH (R458). -/
def execWaitQueryFetch (a : Half) (s : State) : Host.Outcome State Fault Refusal := waitQuery .fetch a s

/-- WAIT_QUERY_READ (R458). -/
def execWaitQueryRead (a : Half) (s : State) : Host.Outcome State Fault Refusal := waitQuery .read a s

/-- WAIT_QUERY_WRITE (R458). -/
def execWaitQueryWrite (a : Half) (s : State) : Host.Outcome State Fault Refusal := waitQuery .write a s

/-- WAIT_QUERY_IO (R458): a[15:8] is ignored. -/
def execWaitQueryIo (port : Byte) (s : State) : Host.Outcome State Fault Refusal :=
  waitQuery .io (port.setWidth 16) s

end Sys2Proof.Machine
end

