-- ==== Sys2Proof/Machine/Scheduler.lean ====
section
/-! DEFINITION. The clock converter and scheduler (40_scheduler.md): CONFIGURE (R400), the CPU events (R405 to R409),
the sound catch-up (R403), CpuRun (R404), and SLOT_STEP (R402, R410, R414). -/

namespace Sys2Proof.Machine

/-! ## CONFIGURE (R400) -/

/-- A per-slot ratio: floor(F · 2^32 / F_SLOT). -/
def ratio (f fSlot : Word32) : Nat := f.toNat * 4294967296 / fSlot.toNat

/-- The mode a legal MEM_MODE names (R455). -/
def memModeOf (m : Byte) : MemMode :=
  match m.toNat with
  | 0 => .always
  | 1 => .fetchOnly
  | _ => .never

/-- The checks of CONFIGURE, in their order (R400, R901): the first that fails gives the code. -/
def configProblem (memMode : Byte) (fCpu fSlot fSnd : Word32) : Option ConfigError :=
  if fCpu = 0 ∨ fSlot = 0 ∨ fSnd = 0 then some .ce1
  else if 2 < memMode.toNat then some .ce2
  else if ratio fCpu fSlot = 0 ∨ ratio fSnd fSlot = 0 then some .ce3
  else if 72057594037927936 ≤ ratio fCpu fSlot ∨ 72057594037927936 ≤ ratio fSnd fSlot then some .ce4
  else none

/-- The fields a successful CONFIGURE writes; acc_cpu, acc_snd and every other field are unchanged. -/
def Clk.configure (k : Clk) (p : Params) (memMode : Byte) (fCpu fSlot fSnd : Word32) (nwait : Byte) : Clk :=
  { k with
    rCpu := ratio fCpu fSlot
    rSnd := ratio fSnd fSlot
    recip := p.phaseSteps * 18446744073709551616 / ratio fCpu fSlot
    memMode := memModeOf memMode
    nwait := nwait
    onehzHalf := if fSnd.toNat / 2 = 0 then 1 else BitVec.ofNat 32 (fSnd.toNat / 2)
    configured := true }

/-- CONFIGURE's effect: a ConfigurationError changes nothing. -/
def configure (memMode : Byte) (fCpu fSlot fSnd : Word32) (nwait : Byte) (s : State) : State :=
  match configProblem memMode fCpu fSlot fSnd with
  | some c => raiseConfig c s
  | none => complete (s.setClk (s.clk.configure s.params memMode fCpu fSlot fSnd nwait))

/-! ## The CPU events -/

/-- An instruction starts (R404, R405). -/
def startInstr (s : State) : State := s.setClk { s.clk with inInstr := true, instrCost := 0 }

/-- An event the host issues while no instruction is in progress first starts one (R405; 30_encoding.md R303). -/
def ensureInstr (s : State) : State := if s.clk.inInstr then s else startInstr s

/-- Charge n cycles to the CPU (R406): acc_cpu, then instr_cost. An overflow stops the event (R412, R903). -/
def charge (n : Byte) (s : State) : State :=
  unlessFatal (updateCpu (s.clk.accCpu - n.toNat * one) s) fun t =>
    t.setClk { t.clk with instrCost := t.clk.instrCost + n.setWidth 32 }

/-- CPU_CYCLES (R406). -/
def cpuCycles (n : Byte) (s : State) : State := charge n s

/-- CPU_MEM (R406): the wait is read before the charge, and the byte is moved by the collaborator. -/
def cpuMem (k : AccessKind) (a : Half) (s : State) : State := charge (waitCycles s k a) s

/-- CPU_IO (R407): the wait is charged, and then the access is held if it lies beyond the slot, or performed. -/
def cpuIo (x : PendingIo) (s : State) : State :=
  unlessFatal (charge (waitCycles s .io (x.port.setWidth 16)) s) fun t =>
    if t.clk.accCpu < 0 then t.setClk { t.clk with pendingIo := some x } else performIo x t

/-- The access of a CPU I/O event. A read carries no data (30_encoding.md R302), so where the spec gives pending_io of a
held read no data byte, the model holds 0 there, whoever issued the read (DESIGN CHOICE, log 23). Nothing reads it. -/
def ioAccess (write : Bool) (port data : Byte) : PendingIo := ⟨write, port, if write then data else 0⟩

/-- CPU_END (R409), where the instruction has charged a cycle. -/
def endInstr (s : State) : State := s.setClk { s.clk with inInstr := false }

/-! ## CpuRun (R404) -/

/-- One event of the CPU agent inside a slot step, with its outcome returned to the agent (60_exceptions.md R900). A refused
one sets `refused` and does not end the step (R904). A reserved kind is refused after the instruction it opened has started
(DEDUCED, log 19). An I/O event that is held has completed; its access and its byte come later (R407, R408; DEDUCED, log 25). -/
def cpuEvent (e : CpuEvent) (s : State) : State :=
  match e with
  | .cycles n => completeAgent (cpuCycles n s)
  | .mem kind a =>
    match kind.toNat with
    | 0 => completeAgent (cpuMem .fetch a s)
    | 1 => completeAgent (cpuMem .read a s)
    | 2 => completeAgent (cpuMem .write a s)
    | _ => refuseAgent (.encoding .reservedKind) s
  | .io write port data => completeAgent (cpuIo (ioAccess write port data) s)
  | .fin => if s.clk.instrCost = 0 then refuseAgent .zeroCycles s else completeAgent (endInstr s)

/-- One item of the CPU agent's input: an event, or a change of what the collaborator owns (DESIGN CHOICE, log 9). -/
def cpuInput (i : CpuInput) (s : State) : State :=
  match i with
  | .event e => cpuEvent e s
  | .collab c => collaborate c s

/-- How one turn of CpuRun's loop ends: the step's CPU work is done, a FatalAssertion stopped it, or the next
event of the CPU agent is asked for. -/
inductive Turn where
  | done
  | stopped
  | wants
deriving DecidableEq, Repr

/-- The held access, performed where it no longer lies beyond the slot (R404, R407). -/
def releaseHeld (s : State) : State :=
  match s.clk.pendingIo with
  | none => s
  | some x => if s.clk.accCpu < 0 then s else performIo x (s.setClk { s.clk with pendingIo := none })

/-- One turn of CpuRun's loop after the held access: it still lies beyond the slot; or an instruction in progress
goes on; or a new instruction starts while the CPU is due (R404). -/
def cpuDue (s : State) : Turn × State :=
  if s.clk.pendingIo.isSome then (.done, s)
  else if s.clk.inInstr then (.wants, s)
  else if 0 ≤ s.clk.accCpu then (.wants, startInstr s)
  else (.done, s)

/-- One turn of CpuRun's loop, up to CpuNext: a held access first (R404). A FatalAssertion ends the loop (R903). -/
def cpuTurn (s : State) : Turn × State :=
  if s.clk.faulted then (.stopped, s) else cpuDue (releaseHeld s)

/-- CpuRun (R404) over the CPU agent's coming items. It ends with the CPU's work done, with a FatalAssertion, or
waiting for the agent, where it has supplied no further event (DESIGN CHOICE, log 5). -/
def cpuRun (q : List CpuInput) (s : State) : Turn × State :=
  match q with
  | [] => ((cpuTurn s).1, (cpuTurn s).2.setCpuIn [])
  | i :: q =>
    match (cpuTurn s).1 with
    | .wants => cpuRun q (cpuInput i (cpuTurn s).2)
    | .done => (.done, (cpuTurn s).2.setCpuIn (i :: q))
    | .stopped => (.stopped, (cpuTurn s).2.setCpuIn (i :: q))

/-! ## SLOT_STEP (R402) -/

/-- Every observer is called once with the raster position, in registration order (R414). -/
def callObservers (s : State) : State :=
  { s with observed := s.observed ++ s.params.observers.map fun o => ⟨o, s.vid.line, s.vid.slot⟩ }

/-- One tick is paid for: acc_snd falls by ONE (R403). -/
def paySnd (s : State) : State := updateSnd (s.clk.accSnd - one) s

/-- The loop of SoundCatchUp (R403), at most n times round: a tick while acc_snd is due. -/
def soundLoop (n : Nat) (s : State) : State :=
  match n with
  | 0 => s
  | n + 1 => if 0 ≤ s.clk.accSnd then unlessFatal (paySnd (soundTick s)) (soundLoop n) else s

/-- How many times round SoundCatchUp's loop goes from an accumulator value: floor(acc / ONE) + 1 where it is due. -/
def ticksDue (acc : Int) : Nat := if 0 ≤ acc then (acc / one).toNat + 1 else 0

/-- SoundCatchUp (R403). -/
def soundCatchUp (s : State) : State :=
  unlessFatal (updateSnd (s.clk.accSnd + s.clk.rSnd) s) fun t => soundLoop (ticksDue t.clk.accSnd) t

/-- The slot's CPU budget (R402). -/
def cpuBudget (s : State) : State := updateCpu (s.clk.accCpu + s.clk.rCpu) s

/-- One more slot in slot_count, modulo 2^64 (R410). -/
def countSlot (s : State) : State := s.setClk { s.clk with slotCount := s.clk.slotCount + 1 }

/-- VideoAdvance (R410). -/
def videoAdvance (s : State) : State := countSlot (videoSlot s)

/-- The end of a slot step, by how CpuRun ended: the video advance, nothing more after a FatalAssertion, or the
wait for the CPU agent. -/
def slotFinish (x : Turn × State) : State :=
  match x.1 with
  | .done => complete (videoAdvance (x.2.setSlotOpen false))
  | .stopped => x.2.setSlotOpen false
  | .wants => (x.2.setSlotOpen true).setReply .pending

/-- A slot step from its CPU work on. -/
def slotRun (s : State) : State := slotFinish (cpuRun s.cpuIn s)

/-- SLOT_STEP's effect (R402): observers, sound, CPU budget, CPU work, video. -/
def slotStep (s : State) : State :=
  unlessFatal (soundCatchUp (callObservers s)) fun t => unlessFatal (cpuBudget t) slotRun

/-! ## The transactions -/

/-- SLOT_STEP (R402). -/
def execSlotStep (s : State) : Host.Outcome State Fault Refusal := acceptConfigured slotStep s

/-- CONFIGURE (R400). -/
def execConfigure (memMode : Byte) (fCpu fSlot fSnd : Word32) (nwait : Byte) (s : State) :
    Host.Outcome State Fault Refusal := accept (configure memMode fCpu fSlot fSnd nwait) s

/-- CPU_CYCLES, issued by the host (R405, R406). -/
def execCpuCycles (n : Byte) (s : State) : Host.Outcome State Fault Refusal :=
  acceptConfigured (fun s => complete (cpuCycles n (ensureInstr s))) s

/-- CPU_MEM_FETCH, issued by the host (R405, R406). -/
def execCpuMemFetch (a : Half) (s : State) : Host.Outcome State Fault Refusal :=
  acceptConfigured (fun s => complete (cpuMem .fetch a (ensureInstr s))) s

/-- CPU_MEM_READ, issued by the host (R405, R406). -/
def execCpuMemRead (a : Half) (s : State) : Host.Outcome State Fault Refusal :=
  acceptConfigured (fun s => complete (cpuMem .read a (ensureInstr s))) s

/-- CPU_MEM_WRITE, issued by the host (R405, R406). -/
def execCpuMemWrite (a : Half) (s : State) : Host.Outcome State Fault Refusal :=
  acceptConfigured (fun s => complete (cpuMem .write a (ensureInstr s))) s

/-- CPU_IO_READ, issued by the host (R405, R407). -/
def execCpuIoRead (port : Byte) (s : State) : Host.Outcome State Fault Refusal :=
  acceptConfigured (fun s => complete (cpuIo (ioAccess false port 0) (ensureInstr s))) s

/-- CPU_IO_WRITE, issued by the host (R405, R407). -/
def execCpuIoWrite (port data : Byte) (s : State) : Host.Outcome State Fault Refusal :=
  acceptConfigured (fun s => complete (cpuIo (ioAccess true port data) (ensureInstr s))) s

/-- CPU_END, issued by the host (R409): an instruction that has charged no cycle is refused. While no instruction is in
progress the event first starts one (30_encoding.md R303), which has charged none; so it is refused, and a refusal
leaves the start undone (60_exceptions.md R904; DEDUCED, log 18). R905 has no place in its order for this refusal; a
faulted or an unconfigured block reports that instead (DESIGN CHOICE, log 26). -/
def execCpuEnd (s : State) : Host.Outcome State Fault Refusal :=
  acceptConfigured
    (fun s =>
      if (ensureInstr s).clk.instrCost = 0 then refuse .zeroCycles s else complete (endInstr (ensureInstr s))) s

end Sys2Proof.Machine
end

