-- ==== Sys2Proof/Machine/Snapshot.lean ====
section
/-! DEFINITION. Snapshot save and load (46_snapshot.md): the three records (R853 to R855), their checks (R856, R857,
R859), SNAPSHOT_SAVE (R860), SNAPSHOT_LOAD (R861), and the reset of a subsystem whose load fails (R862). -/

namespace Sys2Proof.Machine

/-! ## Records -/

/-- The version tag, version 1 (R851). -/
def versionTag : List Byte := [0, 0, 0, 1]

/-- The video record (R853). -/
def videoRecord (v : Vid) : List Byte :=
  versionTag ++ v.lpb.toList ++ v.lpbBuf.toList ++ [v.lptLo, v.lptHi] ++ bytes16 v.lptCur ++ bytes16 v.line ++
  [v.slot.setWidth 8, byteOfBool v.needLpb] ++ bytes16 (BitVec.ofNat 16 v.linesLeft) ++ bytes16 v.ld1 ++
  bytes16 v.ld2 ++ [byteOfBool v.displayEn, byteOfBool v.vsync, v.border, v.fixbias, v.busLast] ++
  bytes16 (BitVec.ofNat 16 v.lineBuf.length) ++ v.lineBuf

/-- The sound record (R854). -/
def soundRecord (n : Snd) : List Byte :=
  versionTag ++ n.reg.toList ++ bytes16 (n.toneCnt[0].setWidth 16) ++ bytes16 (n.toneCnt[1].setWidth 16) ++
  bytes16 (n.toneCnt[2].setWidth 16) ++
  [byteOfBool n.toneOut[0], byteOfBool n.toneOut[1], byteOfBool n.toneOut[2], n.noiseCnt] ++
  bytes24 (n.lfsr.setWidth 24) ++ [byteOfBool n.noiseOut, n.envCnt, n.envPos.setWidth 8, byteOfDir n.envDir]

/-- The enables byte of the interrupt record (R855): bit k = enable[k]. -/
def Intr.enableByte (i : Intr) : Byte :=
  (0 : BitVec 4) ++ (BitVec.ofBool i.enable[3] ++ (BitVec.ofBool i.enable[2] ++
  (BitVec.ofBool i.enable[1] ++ BitVec.ofBool i.enable[0])))

/-- The interrupt record (R855). -/
def intRecord (i : Intr) : List Byte :=
  versionTag ++ [i.status, i.enableByte, byteOfBool i.irq] ++ bytes32 i.timerCnt ++ bytes32 i.onehzCnt

/-! ## Checks -/

/-- A boolean field is 0x00 or 0x01. -/
def isBoolByte (b : Byte) : Bool := b = 0 || b = 1

/-- A tag of a pixel group (30_encoding.md R350). -/
def isTag (t : Byte) : Bool := t = 1 || t = 2 || t = 4 || t = 8 || t = 16

/-- The bytes are exactly n pixel groups (R856 (e)). -/
def areGroups (n : Nat) (bs : List Byte) : Bool :=
  match n with
  | 0 => bs.isEmpty
  | n + 1 =>
    match bs with
    | [] => false
    | t :: rest => isTag t && decide (t.toNat ≤ rest.length) && areGroups n (rest.drop t.toNat)

/-- The first check of a list that does not hold. Where a record breaks several checks, the letter the error records
is the first in the order of the letters (DEDUCED, log 24): 60_exceptions.md R902 does not choose one. -/
def firstBroken (checks : List (Bool × RecordCheck)) : Option RecordCheck :=
  match checks with
  | [] => none
  | (ok, c) :: rest => if ok then firstBroken rest else some c

/-- The video checks, in order (R856). -/
def videoBroken (p : Params) (d : List Byte) : Option RecordCheck :=
  let slot := (byteAt d 42).toNat
  let need := byteAt d 43
  let left := (field16 d 44).toNat
  firstBroken
    [(decide (slot < p.nslot), .r856a),
     (isBoolByte need && isBoolByte (byteAt d 50) && isBoolByte (byteAt d 51), .r856b),
     (decide (left ≤ 256), .r856c),
     ((need = 1 || decide (1 ≤ left)) && (!decide (need = 1) || decide (slot ≤ 7)), .r856d),
     (areGroups slot (d.drop 57), .r856e),
     (!(decide (1 ≤ slot) && decide (slot ≤ 8)) || byteAt d 50 = 0, .r856f)]

/-- The LFSR width a sound record selects by its own reg[4] (R857 (c)). -/
def recordWidth (d : List Byte) : Nat := noiseWidth ((byteAt d 8).extractLsb' 4 3)

/-- The sound checks, in order (R857). -/
def soundBroken (d : List Byte) : Option RecordCheck :=
  let lfsr := (field24 d 30).toNat
  firstBroken
    [(decide ((field16 d 20).toNat ≤ 4095) && decide ((field16 d 22).toNat ≤ 4095) &&
      decide ((field16 d 24).toNat ≤ 4095), .r857a),
     (isBoolByte (byteAt d 26) && isBoolByte (byteAt d 27) && isBoolByte (byteAt d 28) &&
      isBoolByte (byteAt d 33), .r857b),
     (decide (1 ≤ lfsr) && decide (lfsr ≤ (lfsrMask (recordWidth d)).toNat), .r857c),
     (decide ((byteAt d 35).toNat ≤ 31), .r857d),
     (byteAt d 36 = 0xFF || byteAt d 36 = 0 || byteAt d 36 = 1, .r857e)]

/-- The INT fields an interrupt record holds (R855). -/
def intFields (d : List Byte) : Intr where
  level := Vector.ofFn fun k : Fin 4 => (byteAt d 4).getLsbD (2 * k.val)
  latch := Vector.ofFn fun k : Fin 4 => (byteAt d 4).getLsbD (2 * k.val + 1)
  enable := Vector.ofFn fun k : Fin 4 => (byteAt d 5).getLsbD k.val
  irq := byteAt d 6 = 1
  timerCnt := field32 d 7
  onehzCnt := field32 d 11

/-- The interrupt checks, in order (R859). Check (e) rejects the record of a block whose 1 Hz count is at or past a
lowered onehz_half. R859 (e) and R861 demand that, and R863 would load the record back; no model can do both, and this one
makes the check (DEDUCED, log 12). -/
def intBroken (p : Params) (k : Clk) (d : List Byte) : Option RecordCheck :=
  firstBroken
    [((byteAt d 5).extractLsb' 4 4 = 0, .r859a),
     (isBoolByte (byteAt d 6), .r859b),
     ((intFields d).irq = (intFields d).wanted, .r859c),
     (decide ((field32 d 7).toNat < p.timerHalf), .r859d),
     (decide ((field32 d 11).toNat < k.onehzHalf.toNat), .r859e)]

/-! ## Fields of a consistent record -/

/-- The VID fields a video record holds, with lpt_base recomputed (R853). -/
def videoFields (d : List Byte) : Vid where
  slot := (byteAt d 42).setWidth 6
  line := field16 d 40
  lptBase := lptBaseOf (byteAt d 37) (byteAt d 36)
  lptLo := byteAt d 36
  lptHi := byteAt d 37
  lptCur := field16 d 38
  needLpb := byteAt d 43 = 1
  linesLeft := (field16 d 44).toNat
  lpbBuf := field16x8 d 20
  lpb := field16x8 d 4
  ld1 := field16 d 46
  ld2 := field16 d 48
  displayEn := byteAt d 50 = 1
  vsync := byteAt d 51 = 1
  border := byteAt d 52
  fixbias := byteAt d 53
  busLast := byteAt d 54
  lineBuf := d.drop 57

/-- The SND fields a sound record holds (R854). -/
def soundFields (d : List Byte) : Snd where
  reg := field16x8 d 4
  toneCnt := #v[(field16 d 20).setWidth 12, (field16 d 22).setWidth 12, (field16 d 24).setWidth 12]
  toneOut := #v[byteAt d 26 = 1, byteAt d 27 = 1, byteAt d 28 = 1]
  noiseCnt := byteAt d 29
  lfsr := (field24 d 30).setWidth 17
  noiseOut := byteAt d 33 = 1
  envCnt := byteAt d 34
  envPos := (byteAt d 35).setWidth 5
  envDir := if byteAt d 36 = 0xFF then .down else if byteAt d 36 = 0 then .still else .up

/-! ## Load -/

/-- The length a record declares (R861). -/
def expectedLength (u : Subsystem) (d : List Byte) : Nat :=
  match u with
  | .video => 57 + (field16 d 55).toNat
  | .sound => 37
  | .int => 15

/-- A video record must be 57 bytes long before its length field can be read (R861). -/
def tooShort (u : Subsystem) (d : List Byte) : Bool :=
  match u with
  | .video => decide (d.length < 57)
  | .sound => false
  | .int => false

/-- The check of a subsystem's record that does not hold, if any. -/
def recordBroken (u : Subsystem) (d : List Byte) (s : State) : Option RecordCheck :=
  match u with
  | .video => videoBroken s.params d
  | .sound => soundBroken d
  | .int => intBroken s.params s.clk d

/-- The failure of a load, if any: the checks of R861 in their order, the first that fails giving the code. -/
def loadProblem (u : Subsystem) (d : List Byte) (s : State) : Option SnapshotError :=
  if d.length < 4 then some .sf1
  else if d.take 4 ≠ versionTag then some .sf2
  else if tooShort u d then some .sf1
  else if d.length < expectedLength u d then some .sf1
  else if expectedLength u d < d.length then some .sf3
  else (recordBroken u d s).map .sf4

/-- The INT state replaced, with the event of a change of the line (R861, R862; 45_interrupts.md R801). -/
def replaceIntr (i : Intr) (s : State) : State :=
  if s.intr.irq = i.irq then s.setIntr i else (s.setIntr i).emit (irqEvent i.irq)

/-- The record's fields written into the state (R861). -/
def writeRecord (u : Subsystem) (d : List Byte) (s : State) : State :=
  match u with
  | .video => s.setVid (videoFields d)
  | .sound => s.setSnd (soundFields d)
  | .int => replaceIntr (intFields d) s

/-- A subsystem at its power-on state (R862). -/
def resetSubsystem (u : Subsystem) (s : State) : State :=
  match u with
  | .video => s.setVid Vid.reset
  | .sound => s.setSnd Snd.reset
  | .int => replaceIntr Intr.reset s

/-- SnapshotFormatError (60_exceptions.md R902): the subsystem resets before the error reaches the issuer. -/
def raiseSnapshot (u : Subsystem) (c : SnapshotError) (s : State) : State :=
  (resetSubsystem u s).setReply (.snapshotError u c)

/-- SNAPSHOT_LOAD's effect (R861). -/
def snapshotLoad (u : Subsystem) (d : List Byte) (s : State) : State :=
  match loadProblem u d s with
  | some c => raiseSnapshot u c s
  | none => complete (writeRecord u d s)

/-! ## The transactions -/

/-- SNAPSHOT_SAVE_VIDEO (R860). -/
def execSnapshotSaveVideo (s : State) : Host.Outcome State Fault Refusal :=
  accept (fun s => s.setReply (.record (videoRecord s.vid))) s

/-- SNAPSHOT_SAVE_SOUND (R860). -/
def execSnapshotSaveSound (s : State) : Host.Outcome State Fault Refusal :=
  accept (fun s => s.setReply (.record (soundRecord s.snd))) s

/-- SNAPSHOT_SAVE_INT (R860). -/
def execSnapshotSaveInt (s : State) : Host.Outcome State Fault Refusal :=
  accept (fun s => s.setReply (.record (intRecord s.intr))) s

/-- SNAPSHOT_LOAD_VIDEO (R861). -/
def execSnapshotLoadVideo (d : List Byte) (s : State) : Host.Outcome State Fault Refusal :=
  accept (snapshotLoad .video d) s

/-- SNAPSHOT_LOAD_SOUND (R861). -/
def execSnapshotLoadSound (d : List Byte) (s : State) : Host.Outcome State Fault Refusal :=
  accept (snapshotLoad .sound d) s

/-- SNAPSHOT_LOAD_INT (R861). -/
def execSnapshotLoadInt (d : List Byte) (s : State) : Host.Outcome State Fault Refusal :=
  accept (snapshotLoad .int d) s

end Sys2Proof.Machine
end

