-- ==== Sys2Proof/Machine/Dispatch.lean ====
section
/-! DEFINITION. One arm per instruction, each one call of its meaning. -/

namespace Sys2Proof.Machine

def exec (i : Instr) (s : State) : Host.Outcome State Fault Refusal :=
  match i with
  | .pwSndR0 data => Sys2Proof.Machine.execPwSndR0 data s
  | .prSndR0 => Sys2Proof.Machine.execPrSndR0 s
  | .pwSndR1 data => Sys2Proof.Machine.execPwSndR1 data s
  | .prSndR1 => Sys2Proof.Machine.execPrSndR1 s
  | .pwSndR2 data => Sys2Proof.Machine.execPwSndR2 data s
  | .prSndR2 => Sys2Proof.Machine.execPrSndR2 s
  | .pwSndR3 data => Sys2Proof.Machine.execPwSndR3 data s
  | .prSndR3 => Sys2Proof.Machine.execPrSndR3 s
  | .pwSndR4 data => Sys2Proof.Machine.execPwSndR4 data s
  | .prSndR4 => Sys2Proof.Machine.execPrSndR4 s
  | .pwSndR5 data => Sys2Proof.Machine.execPwSndR5 data s
  | .prSndR5 => Sys2Proof.Machine.execPrSndR5 s
  | .pwSndR6 data => Sys2Proof.Machine.execPwSndR6 data s
  | .prSndR6 => Sys2Proof.Machine.execPrSndR6 s
  | .pwSndR7 data => Sys2Proof.Machine.execPwSndR7 data s
  | .prSndR7 => Sys2Proof.Machine.execPrSndR7 s
  | .pwSndR8 data => Sys2Proof.Machine.execPwSndR8 data s
  | .prSndR8 => Sys2Proof.Machine.execPrSndR8 s
  | .pwSndR9 data => Sys2Proof.Machine.execPwSndR9 data s
  | .prSndR9 => Sys2Proof.Machine.execPrSndR9 s
  | .pwSndR10 data => Sys2Proof.Machine.execPwSndR10 data s
  | .prSndR10 => Sys2Proof.Machine.execPrSndR10 s
  | .pwSndR11 data => Sys2Proof.Machine.execPwSndR11 data s
  | .prSndR11 => Sys2Proof.Machine.execPrSndR11 s
  | .pwSndR12 data => Sys2Proof.Machine.execPwSndR12 data s
  | .prSndR12 => Sys2Proof.Machine.execPrSndR12 s
  | .pwSndR13 data => Sys2Proof.Machine.execPwSndR13 data s
  | .prSndR13 => Sys2Proof.Machine.execPrSndR13 s
  | .pwSndR14 data => Sys2Proof.Machine.execPwSndR14 data s
  | .prSndR14 => Sys2Proof.Machine.execPrSndR14 s
  | .pwSndR15 data => Sys2Proof.Machine.execPwSndR15 data s
  | .prSndR15 => Sys2Proof.Machine.execPrSndR15 s
  | .pwIntCtrl data => Sys2Proof.Machine.execPwIntCtrl data s
  | .prIntStatus => Sys2Proof.Machine.execPrIntStatus s
  | .pwReserved11 data => Sys2Proof.Machine.execPwReserved11 data s
  | .prReserved11 => Sys2Proof.Machine.execPrReserved11 s
  | .pwReserved12 data => Sys2Proof.Machine.execPwReserved12 data s
  | .prReserved12 => Sys2Proof.Machine.execPrReserved12 s
  | .pwReserved13 data => Sys2Proof.Machine.execPwReserved13 data s
  | .prReserved13 => Sys2Proof.Machine.execPrReserved13 s
  | .pwReserved14 data => Sys2Proof.Machine.execPwReserved14 data s
  | .prReserved14 => Sys2Proof.Machine.execPrReserved14 s
  | .pwReserved15 data => Sys2Proof.Machine.execPwReserved15 data s
  | .prReserved15 => Sys2Proof.Machine.execPrReserved15 s
  | .pwReserved16 data => Sys2Proof.Machine.execPwReserved16 data s
  | .prReserved16 => Sys2Proof.Machine.execPrReserved16 s
  | .pwReserved17 data => Sys2Proof.Machine.execPwReserved17 data s
  | .prReserved17 => Sys2Proof.Machine.execPrReserved17 s
  | .pwFixbias data => Sys2Proof.Machine.execPwFixbias data s
  | .prFixbias => Sys2Proof.Machine.execPrFixbias s
  | .pwBorder data => Sys2Proof.Machine.execPwBorder data s
  | .prBorder => Sys2Proof.Machine.execPrBorder s
  | .pwLptLo data => Sys2Proof.Machine.execPwLptLo data s
  | .prLptLo => Sys2Proof.Machine.execPrLptLo s
  | .pwLptHi data => Sys2Proof.Machine.execPwLptHi data s
  | .prLptHi => Sys2Proof.Machine.execPrLptHi s
  | .pwReserved1C data => Sys2Proof.Machine.execPwReserved1C data s
  | .prReserved1C => Sys2Proof.Machine.execPrReserved1C s
  | .pwReserved1D data => Sys2Proof.Machine.execPwReserved1D data s
  | .prReserved1D => Sys2Proof.Machine.execPrReserved1D s
  | .pwReserved1E data => Sys2Proof.Machine.execPwReserved1E data s
  | .prReserved1E => Sys2Proof.Machine.execPrReserved1E s
  | .pwReserved1F data => Sys2Proof.Machine.execPwReserved1F data s
  | .prReserved1F => Sys2Proof.Machine.execPrReserved1F s
  | .slotStep => Sys2Proof.Machine.execSlotStep s
  | .soundTick => Sys2Proof.Machine.execSoundTick s
  | .videoSlot => Sys2Proof.Machine.execVideoSlot s
  | .cpuCycles n => Sys2Proof.Machine.execCpuCycles n s
  | .cpuMemFetch a => Sys2Proof.Machine.execCpuMemFetch a s
  | .cpuMemRead a => Sys2Proof.Machine.execCpuMemRead a s
  | .cpuMemWrite a => Sys2Proof.Machine.execCpuMemWrite a s
  | .cpuIoRead port => Sys2Proof.Machine.execCpuIoRead port s
  | .cpuIoWrite port data => Sys2Proof.Machine.execCpuIoWrite port data s
  | .cpuEnd => Sys2Proof.Machine.execCpuEnd s
  | .ext2 level => Sys2Proof.Machine.execExt2 level s
  | .configure memMode fCpu fSlot fSnd nwait => Sys2Proof.Machine.execConfigure memMode fCpu fSlot fSnd nwait s
  | .snapshotSaveVideo => Sys2Proof.Machine.execSnapshotSaveVideo s
  | .snapshotSaveSound => Sys2Proof.Machine.execSnapshotSaveSound s
  | .snapshotSaveInt => Sys2Proof.Machine.execSnapshotSaveInt s
  | .snapshotLoadVideo d => Sys2Proof.Machine.execSnapshotLoadVideo d s
  | .snapshotLoadSound d => Sys2Proof.Machine.execSnapshotLoadSound d s
  | .snapshotLoadInt d => Sys2Proof.Machine.execSnapshotLoadInt d s
  | .reset => Sys2Proof.Machine.execReset s
  | .waitQueryFetch a => Sys2Proof.Machine.execWaitQueryFetch a s
  | .waitQueryRead a => Sys2Proof.Machine.execWaitQueryRead a s
  | .waitQueryWrite a => Sys2Proof.Machine.execWaitQueryWrite a s
  | .waitQueryIo port => Sys2Proof.Machine.execWaitQueryIo port s
  | .border => Sys2Proof.Machine.execBorder s
  | .sync => Sys2Proof.Machine.execSync s
  | .invalid => Sys2Proof.Machine.execInvalid s
  | .attrib => Sys2Proof.Machine.execAttrib s
  | .pixel_2c => Sys2Proof.Machine.execPixel_2c s
  | .pixel_2c_msb => Sys2Proof.Machine.execPixel_2c_msb s
  | .pixel_2c_lsb => Sys2Proof.Machine.execPixel_2c_lsb s
  | .pixel_2c_lsb_msb => Sys2Proof.Machine.execPixel_2c_lsb_msb s
  | .pixel_4c => Sys2Proof.Machine.execPixel_4c s
  | .pixel_4c_lsb => Sys2Proof.Machine.execPixel_4c_lsb s
  | .pixel_16c => Sys2Proof.Machine.execPixel_16c s
  | .pixel_256c => Sys2Proof.Machine.execPixel_256c s
  | .lpixel_2c => Sys2Proof.Machine.execLpixel_2c s
  | .lpixel_2c_msb => Sys2Proof.Machine.execLpixel_2c_msb s
  | .lpixel_2c_lsb => Sys2Proof.Machine.execLpixel_2c_lsb s
  | .lpixel_2c_lsb_msb => Sys2Proof.Machine.execLpixel_2c_lsb_msb s
  | .lpixel_4c => Sys2Proof.Machine.execLpixel_4c s
  | .lpixel_4c_lsb => Sys2Proof.Machine.execLpixel_4c_lsb s
  | .lpixel_16c => Sys2Proof.Machine.execLpixel_16c s
  | .lpixel_256c => Sys2Proof.Machine.execLpixel_256c s
  | .ch256_2c => Sys2Proof.Machine.execCh256_2c s
  | .ch256_2c_a0 => Sys2Proof.Machine.execCh256_2c_a0 s
  | .ch256_2c_a1 => Sys2Proof.Machine.execCh256_2c_a1 s
  | .ch256_2c_a0_a1 => Sys2Proof.Machine.execCh256_2c_a0_a1 s
  | .ch256_4c => Sys2Proof.Machine.execCh256_4c s
  | .ch256_4c_a1 => Sys2Proof.Machine.execCh256_4c_a1 s
  | .ch256_16c => Sys2Proof.Machine.execCh256_16c s
  | .ch256_256c => Sys2Proof.Machine.execCh256_256c s
  | .ch128_2c => Sys2Proof.Machine.execCh128_2c s
  | .ch128_2c_a0 => Sys2Proof.Machine.execCh128_2c_a0 s
  | .ch128_2c_a1 => Sys2Proof.Machine.execCh128_2c_a1 s
  | .ch128_2c_a0_a1 => Sys2Proof.Machine.execCh128_2c_a0_a1 s
  | .ch128_4c => Sys2Proof.Machine.execCh128_4c s
  | .ch128_4c_a1 => Sys2Proof.Machine.execCh128_4c_a1 s
  | .ch128_16c => Sys2Proof.Machine.execCh128_16c s
  | .ch128_256c => Sys2Proof.Machine.execCh128_256c s
  | .ch64_2c => Sys2Proof.Machine.execCh64_2c s
  | .ch64_2c_a0 => Sys2Proof.Machine.execCh64_2c_a0 s
  | .ch64_2c_a1 => Sys2Proof.Machine.execCh64_2c_a1 s
  | .ch64_2c_a0_a1 => Sys2Proof.Machine.execCh64_2c_a0_a1 s
  | .ch64_4c => Sys2Proof.Machine.execCh64_4c s
  | .ch64_4c_a1 => Sys2Proof.Machine.execCh64_4c_a1 s
  | .ch64_16c => Sys2Proof.Machine.execCh64_16c s
  | .ch64_256c => Sys2Proof.Machine.execCh64_256c s

end Sys2Proof.Machine
end

