-- ==== Sys2Proof/Machine/Fetch.lean ====
section
/-! DEFINITION. How the machine takes its next input: the host's next transaction or collaborator's change (00_scope.md
R4), or, while a slot step is in progress, the CPU agent's events (40_scheduler.md R404). -/

namespace Sys2Proof.Machine

/-- A packet that is no transaction (30_encoding.md R360, 60_exceptions.md R904 (a)); a faulted block refuses it as
it refuses every transaction but RESET (R905). -/
def rejectSource (e : DecodeError) (s : State) : State :=
  refuse (if s.clk.faulted then .faulted else .encoding e) s

/-- One transaction of the host: decoded, then run or rejected. -/
def issue (x : Source) (s : State) : Host.Outcome State Fault Refusal :=
  match decode x with
  | .ok i => exec i s
  | .error e => .next (rejectSource e s)

/-- The host's next item. With none the block is idle: it does nothing of its own accord (00_scope.md R4). -/
def hostTurn (s : State) : Host.Outcome State Fault Refusal :=
  match s.hostIn with
  | [] => .next s
  | .issue x :: q => issue x { s with hostIn := q }
  | .collab c :: q => .next (collaborate c { s with hostIn := q })

/-- One step: a slot step in progress goes on with what the CPU agent has supplied since (DESIGN CHOICE, log 5), and only then
does the host's next item come in, because a transaction is atomic (00_scope.md R4). -/
def advance (s : State) : Host.Outcome State Fault Refusal :=
  if s.slotOpen then .next (slotRun s) else hostTurn s

/-- The item at the head of the host's input, with no slot step in progress, so that the next step takes it. -/
def placeFirst (x : HostInput) (s : State) : State := { s with slotOpen := false, hostIn := x :: s.hostIn }

end Sys2Proof.Machine
end

