-- ==== Sys2Proof/Machine/Step.lean ====
section
/-! DEFINITION. One step of the machine, and the placing of an instruction where the next step takes it. -/

namespace Sys2Proof.Machine

/-- One step (Machine/Fetch.lean). -/
def step (s : State) : Host.Outcome State Fault Refusal := advance s

/-- The instruction whose bits are w, put where the next step takes its input: at the head of the host's list of
transactions (DESIGN CHOICE, log 7). -/
def State.withFetchWord (s : State) (nbits w : Nat) : State := placeFirst (.issue (sourceOfNat nbits w)) s

end Sys2Proof.Machine
end

