-- ==== Sys2Proof/Safety.lean ====
section
/-! DEFINITION. The invariants of the machine, in the words of the rules that state them, and what a run is. -/

namespace Sys2Proof.Machine

/-! ## The invariants -/

/-- The construction parameters are legal (00_scope.md R9, R10, R11; 40_scheduler.md R401), and the collaborator's
two stores are in canonical form. -/
structure OuterInv (s : State) : Prop where
  params : s.params.legal
  mem : Memory.wf s.mem
  pageMap : Memory.wf s.pageMap

/-- The accumulators between two host transactions (10_state.md R104, 40_scheduler.md R412). While a slot step waits for the
CPU agent, acc_cpu may still be due, but not in a faulted block. -/
structure AccInv (s : State) : Prop where
  cpuFits : fitsS64 s.clk.accCpu = true
  cpuNegative : s.slotOpen = false ∨ s.clk.faulted = true → s.clk.accCpu < 0
  sndLow : -one ≤ s.clk.accSnd
  sndNegative : s.clk.accSnd < 0

/-- What CONFIGURE leaves (40_scheduler.md R400): ratios of 1 to 2^56 − 1 and the reciprocal of R_cpu, once the block
is configured; and a 1 Hz half period of at least 1. A slot step is in progress in a configured block only. -/
structure ConfigInv (s : State) : Prop where
  rCpuLow : s.clk.configured = true → 1 ≤ s.clk.rCpu
  rCpuHigh : s.clk.rCpu < 72057594037927936
  rSndLow : s.clk.configured = true → 1 ≤ s.clk.rSnd
  rSndHigh : s.clk.rSnd < 72057594037927936
  recip : s.clk.configured = true → s.clk.recip = s.params.phaseSteps * 18446744073709551616 / s.clk.rCpu
  onehzHalf : 1 ≤ s.clk.onehzHalf.toNat
  openConfigured : s.slotOpen = true → s.clk.configured = true

/-- The video engine (42_video_engine.md R540, R541; 46_snapshot.md R856): the slot counter's range, the two parts of
the video invariant, the line count's range, the display flag before the margins, the base address, and the line buffer
holding one pixel group for each slot done. -/
structure VideoInv (s : State) : Prop where
  slot : s.vid.slot.toNat < s.params.nslot
  block : s.vid.needLpb = true ∨ 1 ≤ s.vid.linesLeft
  fetching : s.vid.needLpb = true → s.vid.slot.toNat ≤ 7
  lines : s.vid.linesLeft ≤ 256
  display : 1 ≤ s.vid.slot.toNat → s.vid.slot.toNat ≤ 8 → s.vid.displayEn = false
  base : s.vid.lptBase = lptBaseOf s.vid.lptHi s.vid.lptLo
  groups : areGroups s.vid.slot.toNat s.vid.lineBuf = true

/-- The noise register (10_state.md R120): never 0, and no bit above the current width. -/
structure NoiseInv (s : State) : Prop where
  nonzero : s.snd.lfsr ≠ 0
  width : s.snd.lfsr.toNat ≤ (lfsrMask s.snd.width).toNat

/-- The interrupt unit (45_interrupts.md R801, R804): the line is the OR of the enabled latches, and the timer count
is below its period. -/
structure IrqInv (s : State) : Prop where
  line : s.intr.irq = s.intr.wanted
  timer : s.intr.timerCnt.toNat < s.params.timerHalf

/-- All the invariants together. -/
structure Inv (s : State) : Prop where
  outer : OuterInv s
  acc : AccInv s
  config : ConfigInv s
  video : VideoInv s
  noise : NoiseInv s
  irq : IrqInv s

/-! ## The interrupt events of a trace -/

/-- The line after the interrupt events of a trace, where it starts at up; none where a request comes while the line
is already requested, or a clear while it is not (45_interrupts.md R801). -/
def lineAfter (up : Bool) (t : List Event) : Option Bool :=
  match t with
  | [] => some up
  | .irqRequest :: t => if up then none else lineAfter true t
  | .irqClear :: t => if up then lineAfter false t else none
  | .scanline _ _ :: t => lineAfter up t
  | .vsync _ _ :: t => lineAfter up t
  | .sample _ _ :: t => lineAfter up t

/-- The trace's interrupt events alternate, and they end with the line as it is. -/
def TraceInv (s : State) : Prop := lineAfter false s.trace = some s.intr.irq

/-! ## Words the statements use -/

/-- The event of a change of the interrupt line from old to new; none where it stays. -/
def lineEvents (old new : Bool) : List Event := if new = old then [] else if new then [.irqRequest] else [.irqClear]

/-- The event is a sample. -/
def Event.isSample : Event → Bool
  | .sample _ _ => true
  | .scanline _ _ => false
  | .vsync _ _ => false
  | .irqRequest => false
  | .irqClear => false

/-- The CPU agent's item is an event for the block. -/
def isCpuEvent : CpuInput → Bool
  | .event _ => true
  | .collab _ => false

/-- The k-th of the 64 envelope positions that 44_sound.md R729 tabulates for a shape h = (CONT, ATT, ALT, HOLD),
the shape's bit 3 first. -/
def envelopeShape (h k : Nat) : Nat :=
  match h with
  | 8 => 31 - k % 32
  | 10 => if k < 32 then 31 - k else k - 32
  | 11 => if k < 32 then 31 - k else 31
  | 12 => k % 32
  | 13 => if k < 32 then k else 31
  | 14 => if k < 32 then k else 63 - k
  | 9 => if k < 32 then 31 - k else 0
  | 15 => if k < 32 then k else 0
  | h => if k < 32 then (if h < 4 then 31 - k else k) else 0

/-- The shape number of a value of register 9, in the order of R729: CONT, ATT, ALT, HOLD. -/
def envelopeCode (v : Byte) : Nat := (v.extractLsb' 0 4).toNat

/-- A slot k of a line is active where the left margin is L = max(LM, 8), the right margin is R and the line has n
slots, by the table of 42_video_engine.md R521. -/
def activeSlot (L R n k : Nat) : Prop :=
  if n ≤ L then False
  else if R = L then False
  else if R < L ∨ n ≤ R then L ≤ k
  else L ≤ k ∧ k < R

/-- The SNAPSHOT_LOAD of a subsystem. -/
def loadInstr (u : Subsystem) (d : List Byte) : Instr :=
  match u with
  | .video => .snapshotLoadVideo d
  | .sound => .snapshotLoadSound d
  | .int => .snapshotLoadInt d

/-! ## Runs -/

/-- The outcome is a next state that has a property. A safe run is one whose every step has this outcome. -/
def Next (o : Host.Outcome State Fault Refusal) (P : State → Prop) : Prop :=
  match o with
  | .next t => P t
  | .fault _ => False
  | .refused _ => False

end Sys2Proof.Machine
end

