-- ==== Sys2Proof/Certificates/Slice0/Obligations.lean ====
section
/-! DEFINITION. The statements about the machine, one obligation each. -/

open Sys2Proof Sys2Proof.Machine

/-! ## Encoding -/

/-- The decoder undoes the encoder on every well-formed instruction, with every operand at every value. -/
def Obligations.DecodeEncode : Prop :=
  ∀ i : Instr, wellFormed i = true → decode (encode i) = .ok i

/-- R341: each render key matches the row of exactly one renderer, and that is the one the decoder picks. -/
def Obligations.KeyTableUnique : Prop :=
  ∀ (k : BitVec 10) (r : Renderer), r.matchesKey k = true ↔ r = decodeKey k

/-- R360, its encodings: each reserved header, and each reserved operand, is refused by name, and the refusal sets
`refused` and changes nothing else of the block. -/
def Obligations.RefusedEncodings : Prop :=
  ∀ (p : Packet) (s : State), s.clk.faulted = false →
    let cls := (p.header.extractLsb' 14 2).toNat
    let opcode := (p.header.extractLsb' 8 6).toNat
    let imm := p.header.extractLsb' 0 8
    let refusedAs := fun e : DecodeError =>
      issue (.packet p) s = .next
        { s with clk := { s.clk with refused := true }, reply := .refused (.encoding e) }
    (cls = 3 → refusedAs .reservedClass) ∧
    (cls ≤ 1 → p.header.getLsbD 13 = true → refusedAs .reservedBit13) ∧
    (cls = 2 → 0x0D ≤ opcode → refusedAs .reservedOpcode) ∧
    (cls = 2 → opcode = 4 → imm.toNat % 4 = 3 → refusedAs .reservedKind) ∧
    (∀ a b c w, cls = 2 → opcode = 8 → p.words = [a, b, c, w] → p.bytes = [] → 256 ≤ w.toNat →
      refusedAs .nwaitHighBits) ∧
    (cls = 2 → opcode = 9 ∨ opcode = 10 → 3 ≤ imm.toNat → refusedAs .reservedSubsystem)

/-- R300, R302: the bits the tables call ignored do not change the instruction a word decodes to. -/
def Obligations.IgnoredBits : Prop :=
  (∀ imm : Byte,
    decode (packetOf 0x80 imm [] []) = .ok .slotStep ∧
    decode (packetOf 0x81 imm [] []) = .ok .soundTick ∧
    decode (packetOf 0x82 imm [] []) = .ok .videoSlot ∧
    decode (packetOf 0x86 imm [] []) = .ok .cpuEnd ∧
    decode (packetOf 0x8B imm [] []) = .ok .reset) ∧
  (∀ (off : BitVec 5) (lo : Byte), decode (packetOf ((2 : BitVec 3) ++ off) lo [] []) = .ok (portReadInstr off)) ∧
  (∀ (x : BitVec 6) (y a : Half),
    decode (packetOf 0x84 (x ++ (0 : BitVec 2)) [y ++ a] []) = .ok (.cpuMemFetch a) ∧
    decode (packetOf 0x84 (x ++ (1 : BitVec 2)) [y ++ a] []) = .ok (.cpuMemRead a) ∧
    decode (packetOf 0x84 (x ++ (2 : BitVec 2)) [y ++ a] []) = .ok (.cpuMemWrite a)) ∧
  (∀ (x : BitVec 6) (y a : Half),
    decode (packetOf 0x8C (x ++ (0 : BitVec 2)) [y ++ a] []) = .ok (.waitQueryFetch a) ∧
    decode (packetOf 0x8C (x ++ (1 : BitVec 2)) [y ++ a] []) = .ok (.waitQueryRead a) ∧
    decode (packetOf 0x8C (x ++ (2 : BitVec 2)) [y ++ a] []) = .ok (.waitQueryWrite a)) ∧
  (∀ (x : BitVec 6) (y : Half) (u p : Byte),
    decode (packetOf 0x8C (x ++ (3 : BitVec 2)) [y ++ (u ++ p)] []) = .ok (.waitQueryIo p)) ∧
  (∀ (x : BitVec 7) (y : Half) (d p : Byte),
    decode (packetOf 0x85 (x ++ (0 : BitVec 1)) [y ++ (d ++ p)] []) = .ok (.cpuIoRead p) ∧
    decode (packetOf 0x85 (x ++ (1 : BitVec 1)) [y ++ (d ++ p)] []) = .ok (.cpuIoWrite p d)) ∧
  (∀ x : BitVec 7,
    decode (packetOf 0x87 (x ++ (0 : BitVec 1)) [] []) = .ok (.ext2 false) ∧
    decode (packetOf 0x87 (x ++ (1 : BitVec 1)) [] []) = .ok (.ext2 true))

/-- Headers, operand words and a render key written out from the encoding tables of R300, R302, R310 and R340, and the
instruction each stands for. How they make one number is the model's own layout: header lowest, then the operand words, then
the bytes (DESIGN CHOICE, log 10), and a number of fewer than 16 bits is a render key (DESIGN CHOICE, log 3). -/
def Obligations.SpecWords : Prop :=
  decodeTableWord 16 0x0A0F = some (.pwSndR10 0x0F) ∧
  decodeTableWord 16 0x5000 = some .prIntStatus ∧
  decodeTableWord 16 0x1B12 = some (.pwLptHi 0x12) ∧
  decodeTableWord 16 0x80FF = some .slotStep ∧
  decodeTableWord 16 0x8701 = some (.ext2 true) ∧
  decodeTableWord 16 0x6000 = none ∧
  decodeTableWord 16 0x8D00 = none ∧
  decodeTableWord 48 0x00008000_8402 = some (.cpuMemWrite 0x8000) ∧
  decodeTableWord 48 0x00002A99_8501 = some (.cpuIoWrite 0x99 0x2A) ∧
  decodeTableWord 144 0x00000005_0003D090_000F4240_003D0900_8801 =
    some (.configure 1 4000000 1000000 250000 5) ∧
  decodeTableWord 80 0x04030201_00000004_8A02 = some (.snapshotLoadInt [1, 2, 3, 4]) ∧
  decodeTableWord 10 0x2C3 = some .ch256_2c_a0_a1

/-! ## The step -/

/-- The step runs the instruction its decoder reads from the host's next item, with that item taken. Everything
else a step can do: reject an item by name, take a change of the collaborator, go on with a slot step in progress,
or stay idle. The placing of an instruction makes the next step run it (DESIGN CHOICE, log 5, log 7: the model's own lists). -/
def Obligations.StepRunsDecoded : Prop :=
  (∀ (s : State) (x : Source) (q : List HostInput), s.slotOpen = false → s.hostIn = .issue x :: q →
    (∀ i, decode x = .ok i → step s = exec i { s with hostIn := q }) ∧
    (∀ e, decode x = .error e →
      step s = .next { s with
        hostIn := q
        clk := { s.clk with refused := true }
        reply := .refused (if s.clk.faulted then .faulted else .encoding e) })) ∧
  (∀ (s : State) (c : Collab) (q : List HostInput), s.slotOpen = false → s.hostIn = .collab c :: q →
    step s = .next (collaborate c { s with hostIn := q })) ∧
  (∀ s : State, s.slotOpen = false → s.hostIn = [] → step s = .next s) ∧
  (∀ s : State, s.slotOpen = true → step s = .next (slotRun s)) ∧
  (∀ (s : State) (nbits w : Nat) (i : Instr), decodeTableWord nbits w = some i →
    step (s.withFetchWord nbits w) = exec i { s with slotOpen := false })

/-! ## Outcomes -/

/-- R904 (b) and (d), R905: a faulted block refuses every transaction but RESET, and an unconfigured one refuses SLOT_STEP,
the CPU events and WAIT_QUERY; a refusal sets `refused` and changes nothing else of the block. A CPU_END whose instruction
has charged no cycle (R904 (c), which R905 does not order) reports faulted or not configured first (DESIGN CHOICE, log 26). -/
def Obligations.RefusedStates : Prop :=
  (∀ (i : Instr) (s : State), s.clk.faulted = true → i ≠ .reset → (∀ r : Renderer, i ≠ r.instr) →
    exec i s = .next { s with clk := { s.clk with refused := true }, reply := .refused .faulted }) ∧
  (∀ (s : State) (n port data : Byte) (a : Half), s.clk.faulted = false → s.clk.configured = false →
    ∀ i ∈ [Instr.slotStep, .cpuCycles n, .cpuMemFetch a, .cpuMemRead a, .cpuMemWrite a, .cpuIoRead port,
        .cpuIoWrite port data, .cpuEnd, .waitQueryFetch a, .waitQueryRead a, .waitQueryWrite a, .waitQueryIo port],
      exec i s = .next { s with clk := { s.clk with refused := true }, reply := .refused .notConfigured })

/-- R900, R909: every transaction ends in one of the outcomes, each a next state of the machine (DEDUCED, log 1). A byte
is the answer of a PR or a WAIT_QUERY and a record that of a SNAPSHOT_SAVE, and neither changes anything; a ConfigurationError
comes from CONFIGURE alone and changes nothing; a SnapshotFormatError comes from SNAPSHOT_LOAD alone and leaves the subsystem
reset and the rest as it was; a FatalAssertion leaves the block faulted; a refusal changes `refused` alone; any other
completion leaves the block running. Only a slot step can end none of these ways yet, while it waits for the CPU agent
(DESIGN CHOICE, log 5). A renderer run alone is no transaction (DESIGN CHOICE, log 3). -/
def Obligations.OutcomeTable : Prop :=
  ∀ (i : Instr) (s : State), (∀ r : Renderer, i ≠ r.instr) →
    ∃ t, exec i s = .next t ∧
      match t.reply with
      | .none => False
      | .group _ => False
      | .pending => i = .slotStep ∧ t.slotOpen = true ∧ t.clk.faulted = false
      | .completed => t.clk.faulted = false
      | .byte b =>
        t = { s with reply := .byte b } ∧
        ((∃ off, i = portReadInstr off) ∨
          ∃ a port, i ∈ [Instr.waitQueryFetch a, .waitQueryRead a, .waitQueryWrite a, .waitQueryIo port])
      | .record d =>
        t = { s with reply := .record d } ∧
        i ∈ [Instr.snapshotSaveVideo, .snapshotSaveSound, .snapshotSaveInt]
      | .configError c => t = { s with reply := .configError c } ∧ ∃ m a b f n, i = .configure m a b f n
      | .snapshotError u c =>
        t = { resetSubsystem u s with reply := .snapshotError u c } ∧ ∃ d, i = loadInstr u d
      | .fatal _ => s.clk.faulted = false ∧ t.clk.faulted = true
      | .refused r => t = { s with clk := { s.clk with refused := true }, reply := .refused r }

/-! ## The sound registers -/

/-- R700 to R703, R705 to R708: a write of a period or mixer register stores the whole byte and changes nothing else. -/
def Obligations.SoundWritePeriods : Prop :=
  ∀ (s : State) (v : Byte), s.clk.faulted = false →
    exec (.pwSndR0 v) s = .next { s with snd := { s.snd with reg := s.snd.reg.set 0 v }, reply := .completed } ∧
    exec (.pwSndR1 v) s = .next { s with snd := { s.snd with reg := s.snd.reg.set 1 v }, reply := .completed } ∧
    exec (.pwSndR2 v) s = .next { s with snd := { s.snd with reg := s.snd.reg.set 2 v }, reply := .completed } ∧
    exec (.pwSndR3 v) s = .next { s with snd := { s.snd with reg := s.snd.reg.set 3 v }, reply := .completed } ∧
    exec (.pwSndR5 v) s = .next { s with snd := { s.snd with reg := s.snd.reg.set 5 v }, reply := .completed } ∧
    exec (.pwSndR6 v) s = .next { s with snd := { s.snd with reg := s.snd.reg.set 6 v }, reply := .completed } ∧
    exec (.pwSndR7 v) s = .next { s with snd := { s.snd with reg := s.snd.reg.set 7 v }, reply := .completed } ∧
    exec (.pwSndR8 v) s = .next { s with snd := { s.snd with reg := s.snd.reg.set 8 v }, reply := .completed }

/-- R710 to R715: a write of a level register stores the whole byte and changes nothing else. -/
def Obligations.SoundWriteLevels : Prop :=
  ∀ (s : State) (v : Byte), s.clk.faulted = false →
    exec (.pwSndR10 v) s = .next { s with snd := { s.snd with reg := s.snd.reg.set 10 v }, reply := .completed } ∧
    exec (.pwSndR11 v) s = .next { s with snd := { s.snd with reg := s.snd.reg.set 11 v }, reply := .completed } ∧
    exec (.pwSndR12 v) s = .next { s with snd := { s.snd with reg := s.snd.reg.set 12 v }, reply := .completed } ∧
    exec (.pwSndR13 v) s = .next { s with snd := { s.snd with reg := s.snd.reg.set 13 v }, reply := .completed } ∧
    exec (.pwSndR14 v) s = .next { s with snd := { s.snd with reg := s.snd.reg.set 14 v }, reply := .completed } ∧
    exec (.pwSndR15 v) s = .next { s with snd := { s.snd with reg := s.snd.reg.set 15 v }, reply := .completed }

/-- R704, R725: a write of register 4 stores the byte and brings the noise register into the new width at once; where
nothing is left of it, it becomes all ones. The noise output and count are unchanged. -/
def Obligations.SoundWriteReg4 : Prop :=
  ∀ (s : State) (v : Byte), s.clk.faulted = false →
    let m := lfsrMask (noiseWidth (v.extractLsb' 4 3))
    exec (.pwSndR4 v) s = .next { s with
      snd := { s.snd with
        reg := s.snd.reg.set 4 v
        lfsr := if s.snd.lfsr &&& m = 0 then m else s.snd.lfsr &&& m }
      reply := .completed }

/-- R709, R726: a write of register 9 stores the byte and restarts the envelope at once: at the boundary ATT names, with
its direction, and with the envelope period as the count. -/
def Obligations.SoundWriteReg9 : Prop :=
  ∀ (s : State) (v : Byte), s.clk.faulted = false →
    exec (.pwSndR9 v) s = .next { s with
      snd := { s.snd with
        reg := s.snd.reg.set 9 v
        envPos := if v.getLsbD 2 then 0 else 31
        envDir := if v.getLsbD 2 then .up else .down
        envCnt := s.snd.reg[8] }
      reply := .completed }

/-- R716: a read of a sound register returns it, and changes nothing. -/
def Obligations.SoundReadBack : Prop :=
  ∀ s : State, s.clk.faulted = false →
    exec .prSndR0 s = .next { s with reply := .byte s.snd.reg[0] } ∧
    exec .prSndR1 s = .next { s with reply := .byte s.snd.reg[1] } ∧
    exec .prSndR2 s = .next { s with reply := .byte s.snd.reg[2] } ∧
    exec .prSndR3 s = .next { s with reply := .byte s.snd.reg[3] } ∧
    exec .prSndR4 s = .next { s with reply := .byte s.snd.reg[4] } ∧
    exec .prSndR5 s = .next { s with reply := .byte s.snd.reg[5] } ∧
    exec .prSndR6 s = .next { s with reply := .byte s.snd.reg[6] } ∧
    exec .prSndR7 s = .next { s with reply := .byte s.snd.reg[7] } ∧
    exec .prSndR8 s = .next { s with reply := .byte s.snd.reg[8] } ∧
    exec .prSndR9 s = .next { s with reply := .byte s.snd.reg[9] } ∧
    exec .prSndR10 s = .next { s with reply := .byte s.snd.reg[10] } ∧
    exec .prSndR11 s = .next { s with reply := .byte s.snd.reg[11] } ∧
    exec .prSndR12 s = .next { s with reply := .byte s.snd.reg[12] } ∧
    exec .prSndR13 s = .next { s with reply := .byte s.snd.reg[13] } ∧
    exec .prSndR14 s = .next { s with reply := .byte s.snd.reg[14] } ∧
    exec .prSndR15 s = .next { s with reply := .byte s.snd.reg[15] }

/-! ## Interrupts, reserved ports and video ports -/

/-- R810, R811: INT_CTRL stores the four enables, clears the acknowledged latches, and then the line follows once;
INT_STATUS returns the levels and latches and changes nothing. -/
def Obligations.InterruptPorts : Prop :=
  ∀ s : State, s.clk.faulted = false →
    (∀ v : Byte,
      let l := fun k : Fin 4 => s.intr.latch[k] && !v.getLsbD (2 * k.val + 1)
      let on := (l 0 && v.getLsbD 0) || (l 1 && v.getLsbD 2) || (l 2 && v.getLsbD 4) || (l 3 && v.getLsbD 6)
      exec (.pwIntCtrl v) s = .next { s with
        intr := { s.intr with
          enable := #v[v.getLsbD 0, v.getLsbD 2, v.getLsbD 4, v.getLsbD 6]
          latch := #v[l 0, l 1, l 2, l 3]
          irq := on }
        trace := s.trace ++ lineEvents s.intr.irq on
        reply := .completed }) ∧
    ∃ b : Byte, exec .prIntStatus s = .next { s with reply := .byte b } ∧
      ∀ k : Fin 4, b.getLsbD (2 * k.val) = s.intr.level[k] ∧ b.getLsbD (2 * k.val + 1) = s.intr.latch[k]

/-- R805 with R800 and R801: EXT2 sets the level of source 3, a fall of it latches, and the line follows. -/
def Obligations.Ext2Level : Prop :=
  ∀ (s : State) (v : Bool), s.clk.faulted = false →
    let l3 := (s.intr.level[3] && !v) || s.intr.latch[3]
    let on := (s.intr.latch[0] && s.intr.enable[0]) || (s.intr.latch[1] && s.intr.enable[1]) ||
      (s.intr.latch[2] && s.intr.enable[2]) || (l3 && s.intr.enable[3])
    exec (.ext2 v) s = .next { s with
      intr := { s.intr with level := s.intr.level.set 3 v, latch := s.intr.latch.set 3 l3, irq := on }
      trace := s.trace ++ lineEvents s.intr.irq on
      reply := .completed }

/-- R800: a latch once set stays set, whatever the transaction, but for the ones that can hold an acknowledgement
(INT_CTRL, and the CPU's port writes) or that replace the interrupt unit (SNAPSHOT_LOAD_INT, RESET). -/
def Obligations.LatchPersists : Prop :=
  ∀ (i : Instr) (s t : State) (k : Fin 4), exec i s = .next t → s.intr.latch[k] = true →
    (∀ v, i ≠ .pwIntCtrl v) → (∀ p d, i ≠ .cpuIoWrite p d) → i ≠ .slotStep → (∀ d, i ≠ .snapshotLoadInt d) →
    i ≠ .reset → t.intr.latch[k] = true

/-- R361: a write of a reserved port changes nothing, and a read of one returns 0xFF; neither is refused. -/
def Obligations.ReservedPorts : Prop :=
  ∀ (s : State) (v : Byte), s.clk.faulted = false →
    (∀ i ∈ [Instr.pwReserved11 v, .pwReserved12 v, .pwReserved13 v, .pwReserved14 v, .pwReserved15 v, .pwReserved16 v,
        .pwReserved17 v, .pwReserved1C v, .pwReserved1D v, .pwReserved1E v, .pwReserved1F v],
      exec i s = .next { s with reply := .completed }) ∧
    (∀ i ∈ [Instr.prReserved11, .prReserved12, .prReserved13, .prReserved14, .prReserved15, .prReserved16,
        .prReserved17, .prReserved1C, .prReserved1D, .prReserved1E, .prReserved1F],
      exec i s = .next { s with reply := .byte 0xFF })

/-- R550 to R553: the four video port registers store what is written and read it back; LPT_LO and LPT_HI form the base
address, of which LPT_HI alone is copied to lpt_cur. -/
def Obligations.VideoRegisters : Prop :=
  ∀ (s : State) (v : Byte), s.clk.faulted = false →
    exec (.pwFixbias v) s = .next { s with vid := { s.vid with fixbias := v }, reply := .completed } ∧
    exec (.pwBorder v) s = .next { s with vid := { s.vid with border := v }, reply := .completed } ∧
    exec (.pwLptLo v) s = .next { s with
      vid := { s.vid with lptLo := v, lptBase := s.vid.lptHi ++ (v.extractLsb' 4 4 ++ (0 : BitVec 4)) }
      reply := .completed } ∧
    exec (.pwLptHi v) s = .next { s with
      vid := { s.vid with
        lptHi := v
        lptBase := v ++ (s.vid.lptLo.extractLsb' 4 4 ++ (0 : BitVec 4))
        lptCur := v ++ (s.vid.lptLo.extractLsb' 4 4 ++ (0 : BitVec 4)) }
      reply := .completed } ∧
    exec .prFixbias s = .next { s with reply := .byte s.vid.fixbias } ∧
    exec .prBorder s = .next { s with reply := .byte s.vid.border } ∧
    exec .prLptLo s = .next { s with reply := .byte s.vid.lptLo } ∧
    exec .prLptHi s = .next { s with reply := .byte s.vid.lptHi }

/-! ## The video slot -/

/-- R500, R510, R512 in slots 0 to 7: the border group goes to the line. On a line that starts a block the slot reads
its two LPB bytes, and slot 7 commits the LPB; on a continuing line nothing is read, and slot 7 moves the pointers. -/
def Obligations.SlotReadsLpb : Prop :=
  ∀ s : State, s.clk.faulted = false → 9 ≤ s.params.nslot → s.vid.slot.toNat ≤ 7 →
    let k := s.vid.slot.toNat
    let b0 := Memory.read s.mem (s.vid.lptCur + BitVec.ofNat 16 (2 * k))
    let b1 := Memory.read s.mem (s.vid.lptCur + BitVec.ofNat 16 (2 * k + 1))
    let buf := (s.vid.lpbBuf.setIfInBounds (2 * k) b0).setIfInBounds (2 * k + 1) b1
    let v := { s.vid with
      slot := s.vid.slot + 1
      displayEn := if k = 0 then false else s.vid.displayEn
      lineBuf := s.vid.lineBuf ++ [1, s.vid.border] }
    (s.vid.needLpb = true → k ≤ 6 →
      exec .videoSlot s = .next { s with vid := { v with lpbBuf := buf, busLast := b1 }, reply := .completed }) ∧
    (s.vid.needLpb = true → k = 7 →
      exec .videoSlot s = .next { s with
        vid := { v with
          lpbBuf := buf
          busLast := b1
          lpb := buf
          linesLeft := if buf[0] = 0 then 256 else 256 - buf[0].toNat
          ld1 := buf[5] ++ buf[4]
          ld2 := buf[7] ++ buf[6]
          needLpb := false }
        reply := .completed }) ∧
    (s.vid.needLpb = false → k ≤ 6 → exec .videoSlot s = .next { s with vid := v, reply := .completed }) ∧
    (s.vid.needLpb = false → k = 7 →
      exec .videoSlot s = .next { s with
        vid := { v with
          ld1 := if s.vid.vres then s.vid.ld1 else s.vid.ld1b
          ld2 :=
            if s.vid.vm = 3 then s.vid.ld2 + 256
            else if s.vid.vm = 4 then s.vid.ld2 + 128
            else if s.vid.vm = 5 then s.vid.ld2 + 64
            else if s.vid.vres then s.vid.ld2 else s.vid.ld2b }
        reply := .completed })

/-- R500, R520, R525 in a slot past 7 that is not the last: the opening test sets display_en and checks vsync, the closing
test comes after it, and then the group of the renderer that the key selects goes to the line. What that renderer does in the
slot is what its row does run alone (DESIGN CHOICE, log 3), whose reply is the group: so PlainRenderers to Ch64Renderers say it
of the slot as well. -/
def Obligations.SlotDisplays : Prop :=
  (∀ (r : Renderer) (s : State),
    exec r.instr s = .next { (runRenderer r s).2 with reply := .group (runRenderer r s).1 }) ∧
  ∀ s : State, s.clk.faulted = false → 8 ≤ s.vid.slot.toNat → s.vid.slot.toNat + 1 ≠ s.params.nslot →
    let opens : Bool := decide (s.vid.slot.toNat = max s.vid.lm.toNat 8)
    let shown : Bool := if s.vid.slot = s.vid.rm then false else if opens then true else s.vid.displayEn
    let sync : Bool := decide (s.vid.vm = 0)
    let u := { s with
      vid := { s.vid with displayEn := shown, vsync := if opens then sync else s.vid.vsync }
      trace := s.trace ++ (if opens && (sync != s.vid.vsync) then [.vsync sync s.vid.slot] else []) }
    let key := BitVec.ofBool shown ++ (s.vid.vm ++ (s.vid.cm ++ (BitVec.ofBool s.vid.lsbAlt ++
      (BitVec.ofBool s.vid.msbAlt ++ (BitVec.ofBool s.vid.altInd0 ++ BitVec.ofBool s.vid.altInd1)))))
    let g := runRenderer (decodeKey key) u
    exec .videoSlot s = .next { u with
      vid := { u.vid with
        ld1 := g.2.vid.ld1
        ld2 := g.2.vid.ld2
        busLast := g.2.vid.busLast
        lineBuf := s.vid.lineBuf ++ g.1
        slot := s.vid.slot + 1 }
      reply := .completed }

/-- R535 in the last slot of a line: the margin tests and the group of the renderer that the key selects come as in the slots
before it (SlotDisplays); then the Scanline goes out, external line 1 takes the block's VINT flag, and the next line is set
up; the block ends where no line of it is left, and a RELOAD restarts the table. -/
def Obligations.SlotEndsLine : Prop :=
  ∀ s : State, s.clk.faulted = false → 8 ≤ s.vid.slot.toNat → s.vid.slot.toNat + 1 = s.params.nslot →
    let opens : Bool := decide (s.vid.slot.toNat = max s.vid.lm.toNat 8)
    let shown : Bool := if s.vid.slot = s.vid.rm then false else if opens then true else s.vid.displayEn
    let sync : Bool := decide (s.vid.vm = 0)
    let u := { s with
      vid := { s.vid with displayEn := shown, vsync := if opens then sync else s.vid.vsync }
      trace := s.trace ++ (if opens && (sync != s.vid.vsync) then [.vsync sync s.vid.slot] else []) }
    let key := BitVec.ofBool shown ++ (s.vid.vm ++ (s.vid.cm ++ (BitVec.ofBool s.vid.lsbAlt ++
      (BitVec.ofBool s.vid.msbAlt ++ (BitVec.ofBool s.vid.altInd0 ++ BitVec.ofBool s.vid.altInd1)))))
    let g := runRenderer (decodeKey key) u
    let buf := s.vid.lineBuf ++ g.1
    let fell := s.intr.level[2] && !s.vid.vint
    let l2 := fell || s.intr.latch[2]
    let on := (s.intr.latch[0] && s.intr.enable[0]) || (s.intr.latch[1] && s.intr.enable[1]) ||
      (l2 && s.intr.enable[2]) || (s.intr.latch[3] && s.intr.enable[3])
    let v := { u.vid with
      ld1 := g.2.vid.ld1, ld2 := g.2.vid.ld2, busLast := g.2.vid.busLast, lineBuf := [], slot := 0 }
    exec .videoSlot s = .next { u with
      vid :=
        if 1 < s.vid.linesLeft then { v with linesLeft := s.vid.linesLeft - 1, line := s.vid.line + 1 }
        else if s.vid.reload then
          { v with linesLeft := 0, needLpb := true, lptCur := s.vid.lptBase, line := 0 }
        else { v with linesLeft := 0, needLpb := true, lptCur := s.vid.lptCur + 16, line := s.vid.line + 1 }
      intr := { s.intr with
        level := s.intr.level.set 2 s.vid.vint, latch := s.intr.latch.set 2 l2, irq := on }
      trace := u.trace ++ [.scanline buf buf.length] ++ lineEvents s.intr.irq on
      reply := .completed }

/-- R521: over a line, from slot 8 on, the display is on in exactly the slots that the table gives for the margins. -/
def Obligations.MarginOutcomes : Prop :=
  ∀ (s : State) (n : Nat), s.params.nslot ≤ 64 → s.vid.slot = 8 → s.vid.displayEn = false →
    8 + n < s.params.nslot →
    ((margins (videoSlot^[n] s)).vid.displayEn = true ↔
      activeSlot (max s.vid.lm.toNat 8) s.vid.rm.toNat s.params.nslot (8 + n))

/-! ## The renderers, each run alone

That a renderer can be run alone, and what its issuer then gets, is the model's own convention (DESIGN CHOICE, log 3). -/

/-- R620 to R623: BORDER and INVALID give the border colour and SYNC gives 0, with no fetch; ATTRIBUTE reads an attribute
and a bitmap byte, and gives ink or paper by the bitmap's bits.
A renderer run alone, in every state, with its group as the reply, is the model's own convention (DESIGN CHOICE, log 3). -/
def Obligations.PlainRenderers : Prop :=
  ∀ s : State,
    let past : Bool := decide (s.params.lastFetchSlot < s.vid.slot.toNat)
    let a := if past then s.vid.busLast else Memory.read s.mem s.vid.ld1
    let m := if past then s.vid.busLast else Memory.read s.mem s.vid.ld2
    let v := if past then s.vid else { s.vid with ld1 := s.vid.ld1 + 1, ld2 := s.vid.ld2 + 1, busLast := m }
    let ink := s.vid.colour (a.extractLsb' 0 4)
    let paper := s.vid.colour (a.extractLsb' 4 4)
    exec .border s = .next { s with reply := .group [1, s.vid.border] } ∧
    exec .sync s = .next { s with reply := .group [1, 0] } ∧
    exec .invalid s = .next { s with reply := .group [1, s.vid.border] } ∧
    exec .attrib s = .next { s with
      vid := v
      reply := .group (8 :: [7, 6, 5, 4, 3, 2, 1, 0].map fun j => if m.getLsbD j then ink else paper) }

/-- R624 to R631: a PIXEL renderer decodes two bytes read at LD1, which moves on by 2.
A renderer run alone, in every state, with its group as the reply, is the model's own convention (DESIGN CHOICE, log 3). -/
def Obligations.PixelRenderers : Prop :=
  ∀ s : State,
    let past : Bool := decide (s.params.lastFetchSlot < s.vid.slot.toNat)
    let b0 := if past then s.vid.busLast else Memory.read s.mem s.vid.ld1
    let b1 := if past then s.vid.busLast else Memory.read s.mem (s.vid.ld1 + 1)
    let v := if past then s.vid else { s.vid with ld1 := s.vid.ld1 + 2, busLast := b1 }
    let gives : List Byte → Host.Outcome State Fault Refusal :=
      fun px => .next { s with vid := v, reply := .group px }
    exec .pixel_2c s = gives (16 :: (s.vid.dec 0 b0 (pixAlt b0 false false) ++ s.vid.dec 0 b1 (pixAlt b1 false false))) ∧
    exec .pixel_2c_msb s = gives (16 :: (s.vid.dec 0 b0 (pixAlt b0 false true) ++ s.vid.dec 0 b1 (pixAlt b1 false true))) ∧
    exec .pixel_2c_lsb s = gives (16 :: (s.vid.dec 0 b0 (pixAlt b0 true false) ++ s.vid.dec 0 b1 (pixAlt b1 true false))) ∧
    exec .pixel_2c_lsb_msb s = gives (16 :: (s.vid.dec 0 b0 (pixAlt b0 true true) ++ s.vid.dec 0 b1 (pixAlt b1 true true))) ∧
    exec .pixel_4c s = gives (8 :: (s.vid.dec 1 b0 (pixAlt b0 false false) ++ s.vid.dec 1 b1 (pixAlt b1 false false))) ∧
    exec .pixel_4c_lsb s = gives (8 :: (s.vid.dec 1 b0 (pixAlt b0 true false) ++ s.vid.dec 1 b1 (pixAlt b1 true false))) ∧
    exec .pixel_16c s = gives (4 :: (s.vid.dec 2 b0 (pixAlt b0 false false) ++ s.vid.dec 2 b1 (pixAlt b1 false false))) ∧
    exec .pixel_256c s = gives (2 :: (s.vid.dec 3 b0 (pixAlt b0 false false) ++ s.vid.dec 3 b1 (pixAlt b1 false false)))

/-- R632 to R639: an LPIXEL renderer decodes one byte read at LD1, which moves on by 1.
A renderer run alone, in every state, with its group as the reply, is the model's own convention (DESIGN CHOICE, log 3). -/
def Obligations.LpixelRenderers : Prop :=
  ∀ s : State,
    let past : Bool := decide (s.params.lastFetchSlot < s.vid.slot.toNat)
    let b0 := if past then s.vid.busLast else Memory.read s.mem s.vid.ld1
    let v := if past then s.vid else { s.vid with ld1 := s.vid.ld1 + 1, busLast := b0 }
    let gives : List Byte → Host.Outcome State Fault Refusal :=
      fun px => .next { s with vid := v, reply := .group px }
    exec .lpixel_2c s = gives (8 :: s.vid.dec 0 b0 (pixAlt b0 false false)) ∧
    exec .lpixel_2c_msb s = gives (8 :: s.vid.dec 0 b0 (pixAlt b0 false true)) ∧
    exec .lpixel_2c_lsb s = gives (8 :: s.vid.dec 0 b0 (pixAlt b0 true false)) ∧
    exec .lpixel_2c_lsb_msb s = gives (8 :: s.vid.dec 0 b0 (pixAlt b0 true true)) ∧
    exec .lpixel_4c s = gives (4 :: s.vid.dec 1 b0 (pixAlt b0 false false)) ∧
    exec .lpixel_4c_lsb s = gives (4 :: s.vid.dec 1 b0 (pixAlt b0 true false)) ∧
    exec .lpixel_16c s = gives (2 :: s.vid.dec 2 b0 (pixAlt b0 false false)) ∧
    exec .lpixel_256c s = gives (1 :: s.vid.dec 3 b0 (pixAlt b0 false false))

/-- R640 to R647: a CH256 renderer reads a character code at LD1, which moves on by 1, and decodes the byte at LD2 with
its low 8 bits replaced by those of the code. A renderer run alone, in every state, with its group as the reply, is the
model's own convention (DESIGN CHOICE, log 3). -/
def Obligations.Ch256Renderers : Prop :=
  ∀ s : State,
    let past : Bool := decide (s.params.lastFetchSlot < s.vid.slot.toNat)
    let c := if past then s.vid.busLast else Memory.read s.mem s.vid.ld1
    let f := if past then s.vid.busLast
      else Memory.read s.mem (s.vid.ld2.extractLsb' 8 8 ++ c.extractLsb' 0 8)
    let v := if past then s.vid else { s.vid with ld1 := s.vid.ld1 + 1, busLast := f }
    let gives : List Byte → Host.Outcome State Fault Refusal :=
      fun px => .next { s with vid := v, reply := .group px }
    exec .ch256_2c s = gives (8 :: s.vid.dec 0 f (chrAlt c false false)) ∧
    exec .ch256_2c_a0 s = gives (8 :: s.vid.dec 0 f (chrAlt c true false)) ∧
    exec .ch256_2c_a1 s = gives (8 :: s.vid.dec 0 f (chrAlt c false true)) ∧
    exec .ch256_2c_a0_a1 s = gives (8 :: s.vid.dec 0 f (chrAlt c true true)) ∧
    exec .ch256_4c s = gives (4 :: s.vid.dec 1 f (chrAlt c false false)) ∧
    exec .ch256_4c_a1 s = gives (4 :: s.vid.dec 1 f (chrAlt c false true)) ∧
    exec .ch256_16c s = gives (2 :: s.vid.dec 2 f (chrAlt c false false)) ∧
    exec .ch256_256c s = gives (1 :: s.vid.dec 3 f (chrAlt c false false))

/-- R648 to R655: a CH128 renderer reads a character code at LD1, which moves on by 1, and decodes the byte at LD2 with
its low 7 bits replaced by those of the code. A renderer run alone, in every state, with its group as the reply, is the
model's own convention (DESIGN CHOICE, log 3). -/
def Obligations.Ch128Renderers : Prop :=
  ∀ s : State,
    let past : Bool := decide (s.params.lastFetchSlot < s.vid.slot.toNat)
    let c := if past then s.vid.busLast else Memory.read s.mem s.vid.ld1
    let f := if past then s.vid.busLast
      else Memory.read s.mem (s.vid.ld2.extractLsb' 7 9 ++ c.extractLsb' 0 7)
    let v := if past then s.vid else { s.vid with ld1 := s.vid.ld1 + 1, busLast := f }
    let gives : List Byte → Host.Outcome State Fault Refusal :=
      fun px => .next { s with vid := v, reply := .group px }
    exec .ch128_2c s = gives (8 :: s.vid.dec 0 f (chrAlt c false false)) ∧
    exec .ch128_2c_a0 s = gives (8 :: s.vid.dec 0 f (chrAlt c true false)) ∧
    exec .ch128_2c_a1 s = gives (8 :: s.vid.dec 0 f (chrAlt c false true)) ∧
    exec .ch128_2c_a0_a1 s = gives (8 :: s.vid.dec 0 f (chrAlt c true true)) ∧
    exec .ch128_4c s = gives (4 :: s.vid.dec 1 f (chrAlt c false false)) ∧
    exec .ch128_4c_a1 s = gives (4 :: s.vid.dec 1 f (chrAlt c false true)) ∧
    exec .ch128_16c s = gives (2 :: s.vid.dec 2 f (chrAlt c false false)) ∧
    exec .ch128_256c s = gives (1 :: s.vid.dec 3 f (chrAlt c false false))

/-- R656 to R663: a CH64 renderer reads a character code at LD1, which moves on by 1, and decodes the byte at LD2 with
its low 6 bits replaced by those of the code. A renderer run alone, in every state, with its group as the reply, is the
model's own convention (DESIGN CHOICE, log 3). -/
def Obligations.Ch64Renderers : Prop :=
  ∀ s : State,
    let past : Bool := decide (s.params.lastFetchSlot < s.vid.slot.toNat)
    let c := if past then s.vid.busLast else Memory.read s.mem s.vid.ld1
    let f := if past then s.vid.busLast
      else Memory.read s.mem (s.vid.ld2.extractLsb' 6 10 ++ c.extractLsb' 0 6)
    let v := if past then s.vid else { s.vid with ld1 := s.vid.ld1 + 1, busLast := f }
    let gives : List Byte → Host.Outcome State Fault Refusal :=
      fun px => .next { s with vid := v, reply := .group px }
    exec .ch64_2c s = gives (8 :: s.vid.dec 0 f (chrAlt c false false)) ∧
    exec .ch64_2c_a0 s = gives (8 :: s.vid.dec 0 f (chrAlt c true false)) ∧
    exec .ch64_2c_a1 s = gives (8 :: s.vid.dec 0 f (chrAlt c false true)) ∧
    exec .ch64_2c_a0_a1 s = gives (8 :: s.vid.dec 0 f (chrAlt c true true)) ∧
    exec .ch64_4c s = gives (4 :: s.vid.dec 1 f (chrAlt c false false)) ∧
    exec .ch64_4c_a1 s = gives (4 :: s.vid.dec 1 f (chrAlt c false true)) ∧
    exec .ch64_16c s = gives (2 :: s.vid.dec 2 f (chrAlt c false false)) ∧
    exec .ch64_256c s = gives (1 :: s.vid.dec 3 f (chrAlt c false false))

/-- R612: past the last fetching slot a renderer reads no memory: it changes nothing, whatever memory holds its group
is the same, and so is every change of its pointers, which is none. -/
def Obligations.FloatingBus : Prop :=
  ∀ (r : Renderer) (s : State), s.params.lastFetchSlot < s.vid.slot.toNat →
    (runRenderer r s).2 = s ∧
    ∀ (m : Memory) (a b : Half),
      (runRenderer r { s with mem := m, vid := { s.vid with ld1 := a, ld2 := b } }).1 = (runRenderer r s).1

/-- R607: a renderer gives a tag and that many colour bytes, which stand for 16 screen pixels. -/
def Obligations.GroupShape : Prop :=
  ∀ (r : Renderer) (s : State), ∃ (t : Byte) (px : List Byte), (runRenderer r s).1 = t :: px ∧
    px.length = t.toNat ∧ (t = 1 ∨ t = 2 ∨ t = 4 ∨ t = 8 ∨ t = 16) ∧ t.toNat * (16 / t.toNat) = 16

/-- R602 to R606: the palette indices of a byte in each colour mode, the palette, the two alternate masks, and the
font address. -/
def Obligations.DecodeAndPalette : Prop :=
  (∀ b : Byte,
    let n := fun j : Nat => (b.getLsbD j).toNat
    (indices2 b).map BitVec.toNat = [n 7, n 6, n 5, n 4, n 3, n 2, n 1, n 0] ∧
    (indices4 b).map BitVec.toNat = [n 7 + 2 * n 3, n 6 + 2 * n 2, n 5 + 2 * n 1, n 4 + 2 * n 0] ∧
    (indices16 b).map BitVec.toNat =
      [n 7 + 2 * n 3 + 4 * n 5 + 8 * n 1, n 6 + 2 * n 2 + 4 * n 4 + 8 * n 0] ∧
    (∀ lsb msb : Bool, (pixAlt b lsb msb).toNat =
      (if lsb && b.getLsbD 0 then 4 else 0) + (if msb && b.getLsbD 7 then 2 else 0)) ∧
    ∀ a0 a1 : Bool, (chrAlt b a0 a1).toNat =
      (if a0 && b.getLsbD 7 then 2 else 0) + (if a1 && b.getLsbD 6 then 4 else 0)) ∧
  (∀ (v : Vid) (i : Fin 8),
    v.colour (BitVec.ofNat 4 i.val) = v.lpb[8 + i.val] ∧
    v.colour (BitVec.ofNat 4 (8 + i.val)) = v.fixbias.extractLsb' 0 5 ++ BitVec.ofNat 3 i.val) ∧
  (∀ (v : Vid) (b : Byte) (x : BitVec 4),
    v.dec 0 b x = (indices2 b).map (fun i => v.colour (i ^^^ x)) ∧
    v.dec 1 b x = (indices4 b).map (fun i => v.colour (i ^^^ x)) ∧
    v.dec 2 b x = (indices16 b).map (fun i => v.colour (i ^^^ x)) ∧
    v.dec 3 b x = [b]) ∧
  (∀ (p : Half) (c : Byte),
    fontAddr 8 p c = p.extractLsb' 8 8 ++ c ∧
    fontAddr 7 p c = p.extractLsb' 7 9 ++ c.extractLsb' 0 7 ∧
    fontAddr 6 p c = p.extractLsb' 6 10 ++ c.extractLsb' 0 6)

/-! ## The sound tick -/

/-- R730: a tick steps the generators, then the dividers, and then emits one sample of the new outputs, left first. -/
def Obligations.SoundTickOrder : Prop :=
  ∀ s : State, s.clk.faulted = false →
    let n := ((((s.snd.toneStep 0).toneStep 1).toneStep 2).noiseStep).envStep
    let d := intDividerTick { s with snd := n }
    exec .soundTick s = .next { s with
      snd := n
      intr := d.intr
      trace := d.trace ++
        [.sample (BitVec.ofNat 16 (sideLevel s.params n 0)) (BitVec.ofNat 16 (sideLevel s.params n 1))]
      reply := .completed }

/-- R721 to R724, R727, R728: one step of each generator; and the numbers the noise generator takes from tables: WIDTH(NW)
of R321, TAP(W) of R724, and mask(W) of R12. -/
def Obligations.GeneratorSteps : Prop :=
  [0, 1, 2, 3, 4, 5, 6, 7].map noiseWidth = [4, 5, 7, 9, 11, 15, 17, 17] ∧
  [4, 5, 7, 9, 11, 15, 17].map noiseTap = [3, 3, 6, 5, 9, 14, 14] ∧
  (∀ w ∈ [4, 5, 7, 9, 11, 15, 17], (lfsrMask w).toNat = 2 ^ w - 1) ∧
  ∀ n : Snd,
    (∀ c : Fin 3, n.toneStep c =
      if n.toneCnt[c] = 0 then
        { n with toneCnt := n.toneCnt.set c (n.period c), toneOut := n.toneOut.set c (!n.toneOut[c]) }
      else { n with toneCnt := n.toneCnt.set c (n.toneCnt[c] - 1) }) ∧
    (n.period 0).toNat = n.reg[0].toNat + 256 * (n.reg[3].toNat % 16) ∧
    (n.period 1).toNat = n.reg[1].toNat + 256 * (n.reg[3].toNat / 16) ∧
    (n.period 2).toNat = n.reg[2].toNat + 256 * (n.reg[4].toNat % 16) ∧
    (let w := noiseWidth (n.reg[4].extractLsb' 4 3)
     let new := n.lfsr.getLsbD (w - 1) ^^ n.lfsr.getLsbD (noiseTap w - 1)
     n.noiseStep =
      if n.noiseCnt = 0 then
        { n with
          noiseCnt := n.reg[5]
          noiseOut := new
          lfsr := BitVec.ofNat 17 ((2 * n.lfsr.toNat + new.toNat) % 2 ^ w) }
      else { n with noiseCnt := n.noiseCnt - 1 }) ∧
    (let fired := { n with envCnt := n.reg[8] }
     let cont := n.reg[9].getLsbD 3
     let att := n.reg[9].getLsbD 2
     let alt := n.reg[9].getLsbD 1
     let hold := n.reg[9].getLsbD 0
     let pos := n.envPos
     let inside := { fired with envPos := BitVec.ofInt 5 (pos.toNat + n.envDir.toInt) }
     (n.envCnt ≠ 0 → n.envStep = { n with envCnt := n.envCnt - 1 }) ∧
     (n.envCnt = 0 → 0 ≤ (pos.toNat : Int) + n.envDir.toInt → (pos.toNat : Int) + n.envDir.toInt ≤ 31 →
       n.envStep = inside) ∧
     (n.envCnt = 0 → (pos = 0 ∧ n.envDir = .down) ∨ (pos = 31 ∧ n.envDir = .up) →
       n.envStep =
        if !cont then { fired with envPos := 0, envDir := .still }
        else if !hold then
          (if !alt then { fired with envPos := if att then 0 else 31 } else { fired with envDir := n.envDir.neg })
        else if !alt then { fired with envDir := .still }
        else { fired with envPos := 31 - pos, envDir := .still }))

/-- R721, R722: a tone generator of period T fires at the tick after its count has run out, and then once every T + 1 ticks,
and each firing toggles its output. -/
def Obligations.ToneFirings : Prop :=
  ∀ (n : Snd) (c : Fin 3) (k : Nat),
    let fired := if k ≤ n.toneCnt[c].toNat then 0
      else (k - n.toneCnt[c].toNat - 1) / ((n.period c).toNat + 1) + 1
    (Snd.tick^[k] n).toneOut[c] = (n.toneOut[c] ^^ decide (fired % 2 = 1))

/-- R724: for each width the feedback is of maximal length: from all ones the register first comes back to all
ones after 2^W − 1 shifts. -/
def Obligations.NoisePeriod : Prop :=
  ∀ w ∈ [4, 5, 7, 9, 11, 15, 17],
    (lfsrNext w)^[2 ^ w - 1] (lfsrMask w) = lfsrMask w ∧
    ∀ k, 0 < k → k < 2 ^ w - 1 → (lfsrNext w)^[k] (lfsrMask w) ≠ lfsrMask w

/-- R729: with an envelope period of 0, the 64 positions after a restart are those tabulated for the shape. -/
def Obligations.EnvelopeSequences : Prop :=
  ∀ (n : Snd) (v : Byte) (k : Nat), n.reg[8] = 0 → k < 64 →
    (Snd.tick^[k] (n.write 9 v)).envPos.toNat = envelopeShape (envelopeCode v) k

/-- R745: with every level register 0 a tick's sample is silence on both sides, whatever the other state is. -/
def Obligations.Silence : Prop :=
  ∀ s : State, s.clk.faulted = false → s.params.legal →
    (∀ r : Fin 16, 10 ≤ r.val → s.snd.reg[r] = 0) →
    ∃ t, exec .soundTick s = .next t ∧ t.trace.getLast? = some (.sample 0 0)

/-- R740 to R744: what a channel contributes to a side, and that a side's sum always fits the 16-bit sample. -/
def Obligations.MixerLevels : Prop :=
  ∀ (p : Params) (n : Snd) (side : Fin 2),
    (∀ c : Fin 3,
      let v := n.reg[10 + 3 * side.val + c.val]
      let toneOff := n.reg[6 + side.val].getLsbD c.val
      let noiseOff := n.reg[6 + side.val].getLsbD (3 + c.val)
      contribution p n side c =
        if v.getLsbD 6 then v.toNat % 64 * p.dacGain
        else if (n.toneOut[c] || toneOff) && (n.noiseOut || noiseOff) then
          p.ampTable.getD (if v.getLsbD 4 then n.envPos.toNat / 2 else v.toNat % 16) 0
        else 0) ∧
    sideLevel p n side = contribution p n side 0 + contribution p n side 1 + contribution p n side 2 ∧
    (p.legal → sideLevel p n side ≤ 65535)

/-- R803, R804: from a fresh divider the timer's level toggles every TIMER_HALF ticks and the 1 Hz level every onehz_half
ticks, and the first fall of each latches. A 1 Hz count already past the half period toggles at the next tick. -/
def Obligations.DividerPeriods : Prop :=
  (∀ (s : State) (n : Nat), 1 ≤ s.params.timerHalf → s.params.timerHalf < 4294967296 → s.intr.timerCnt = 0 →
    s.intr.level[0] = true →
    (soundTick^[n] s).intr.timerCnt.toNat = n % s.params.timerHalf ∧
    (soundTick^[n] s).intr.level[0] = decide (n / s.params.timerHalf % 2 = 0) ∧
    (s.params.timerHalf ≤ n → (soundTick^[n] s).intr.latch[0] = true)) ∧
  (∀ (s : State) (n : Nat), 1 ≤ s.clk.onehzHalf.toNat → s.intr.onehzCnt = 0 → s.intr.level[1] = true →
    (soundTick^[n] s).intr.onehzCnt.toNat = n % s.clk.onehzHalf.toNat ∧
    (soundTick^[n] s).intr.level[1] = decide (n / s.clk.onehzHalf.toNat % 2 = 0) ∧
    (s.clk.onehzHalf.toNat ≤ n → (soundTick^[n] s).intr.latch[1] = true)) ∧
  (∀ s : State, s.clk.onehzHalf.toNat ≤ s.intr.onehzCnt.toNat → s.intr.onehzCnt.toNat + 1 < 4294967296 →
    (soundTick s).intr.onehzCnt = 0 ∧ (soundTick s).intr.level[1] = !s.intr.level[1])

/-! ## The scheduler -/

/-- R400, R901: CONFIGURE gives the first error whose check fails, with nothing changed; else it writes the ratios, the
reciprocal, the wait mode and the 1 Hz half period, and keeps everything else. No ratio of legal operands is below one unit. -/
def Obligations.Configure : Prop :=
  ∀ (s : State) (mode nwait : Byte) (fCpu fSlot fSnd : Word32), s.clk.faulted = false →
    let rc := fCpu.toNat * 2 ^ 32 / fSlot.toNat
    let rs := fSnd.toNat * 2 ^ 32 / fSlot.toNat
    let i := Instr.configure mode fCpu fSlot fSnd nwait
    let zero := fCpu = 0 ∨ fSlot = 0 ∨ fSnd = 0
    let large := 2 ^ 56 ≤ rc ∨ 2 ^ 56 ≤ rs
    (zero → exec i s = .next { s with reply := .configError .ce1 }) ∧
    (¬zero → 2 < mode.toNat → exec i s = .next { s with reply := .configError .ce2 }) ∧
    (¬zero → 1 ≤ rc ∧ 1 ≤ rs) ∧
    (¬zero → mode.toNat ≤ 2 → large → exec i s = .next { s with reply := .configError .ce4 }) ∧
    (¬zero → mode.toNat ≤ 2 → ¬large →
      exec i s = .next { s with
        clk := { s.clk with
          rCpu := rc
          rSnd := rs
          recip := s.params.phaseSteps * 2 ^ 64 / rc
          memMode := if mode = 0 then .always else if mode = 1 then .fetchOnly else .never
          nwait := nwait
          onehzHalf := BitVec.ofNat 32 (max 1 (fSnd.toNat / 2))
          configured := true }
        reply := .completed })

/-- R406, R405, R412: a CPU_CYCLES or CPU_MEM event starts an instruction where none is in progress, and charges its cycles
or its wait to acc_cpu and instr_cost; where acc_cpu would leave its 64 bits, it is a FatalAssertion and charges nothing.
The same charges for the events that the CPU agent supplies inside a slot step, where an instruction has started; there
the agent gets the event's outcome too (R900; DEDUCED, log 25). -/
def Obligations.CpuCharges : Prop :=
  (∀ (s : State) (n : Byte) (a : Half), s.clk.faulted = false → s.clk.configured = true →
    let cost := if s.clk.inInstr then s.clk.instrCost else 0
    let charged := fun (i : Instr) (w : Byte) =>
      let acc := s.clk.accCpu - w.toNat * 2 ^ 32
      (-2 ^ 63 ≤ acc → acc < 2 ^ 63 →
        exec i s = .next { s with
          clk := { s.clk with accCpu := acc, inInstr := true, instrCost := cost + w.setWidth 32 }
          reply := .completed }) ∧
      (acc < -2 ^ 63 ∨ 2 ^ 63 ≤ acc →
        exec i s = .next { s with
          clk := { s.clk with inInstr := true, instrCost := cost, faulted := true }
          reply := .fatal .cpu })
    charged (.cpuCycles n) n ∧
    charged (.cpuMemFetch a) (waitCycles s .fetch a) ∧
    charged (.cpuMemRead a) (waitCycles s .read a) ∧
    charged (.cpuMemWrite a) (waitCycles s .write a)) ∧
  (∀ (s : State) (n : Byte) (a : Half), s.clk.faulted = false →
    let charged := fun (e : CpuEvent) (w : Byte) =>
      let acc := s.clk.accCpu - w.toNat * 2 ^ 32
      (-2 ^ 63 ≤ acc → acc < 2 ^ 63 →
        cpuEvent e s =
          { s with
            clk := { s.clk with accCpu := acc, instrCost := s.clk.instrCost + w.setWidth 32 }
            agentReplies := s.agentReplies ++ [.completed] }) ∧
      (acc < -2 ^ 63 ∨ 2 ^ 63 ≤ acc →
        cpuEvent e s =
          { s with
            clk := { s.clk with faulted := true }
            reply := .fatal .cpu
            agentReplies := s.agentReplies ++ [.fatal .cpu] })
    charged (.cycles n) n ∧
    charged (.mem 0 a) (waitCycles s .fetch a) ∧
    charged (.mem 1 a) (waitCycles s .read a) ∧
    charged (.mem 2 a) (waitCycles s .write a))

/-- R407, R408: a CPU I/O event charges its wait; beyond the slot the access is held; else a port of the block's window is
what the PW or PR of its offset is, and another port goes to the collaborator, whose answer is a free value (DESIGN CHOICE,
log 6). Where acc_cpu would leave its 64 bits it is a FatalAssertion. The data byte of a held read is the model's
(DESIGN CHOICE, log 23). An event that the CPU agent supplies inside a slot step, where an instruction has started, does the
same, and the agent gets its outcome (R900; DEDUCED, log 25); there the access that is not held is performIo, which
SlotStepOneInstruction describes. -/
def Obligations.CpuIoAccess : Prop :=
  (∀ (s : State) (port data : Byte), s.clk.faulted = false → s.clk.configured = true →
    let cost := if s.clk.inInstr then s.clk.instrCost else 0
    let w := waitCycles s .io (port.setWidth 16)
    let acc := s.clk.accCpu - w.toNat * 2 ^ 32
    let c := { s with clk := { s.clk with accCpu := acc, inInstr := true, instrCost := cost + w.setWidth 32 } }
    let off := port.toNat - s.params.portBase.toNat
    let inside := s.params.portBase.toNat ≤ port.toNat ∧ port.toNat < s.params.portBase.toNat + 32
    (acc < -2 ^ 63 ∨ 2 ^ 63 ≤ acc → ∀ i ∈ [Instr.cpuIoRead port, .cpuIoWrite port data],
      exec i s = .next { s with
        clk := { s.clk with inInstr := true, instrCost := cost, faulted := true }, reply := .fatal .cpu }) ∧
    (-2 ^ 63 ≤ acc → acc < 0 →
      exec (.cpuIoWrite port data) s = .next { c with
        clk := { c.clk with pendingIo := some ⟨true, port, data⟩ }, reply := .completed } ∧
      exec (.cpuIoRead port) s = .next { c with
        clk := { c.clk with pendingIo := some ⟨false, port, 0⟩ }, reply := .completed }) ∧
    (0 ≤ acc → acc < 2 ^ 63 → inside →
      exec (.cpuIoWrite port data) s = exec (portWriteInstr (BitVec.ofNat 5 off) data) c ∧
      ∃ b, exec (portReadInstr (BitVec.ofNat 5 off)) c = .next { c with reply := .byte b } ∧
        exec (.cpuIoRead port) s = .next { c with delivered := s.delivered ++ [b], reply := .completed }) ∧
    (0 ≤ acc → acc < 2 ^ 63 → ¬inside →
      exec (.cpuIoWrite port data) s = .next { c with
        extIo := s.extIo ++ [.write port data], reply := .completed } ∧
      exec (.cpuIoRead port) s = .next { c with
        extIo := s.extIo ++ [.read port]
        ioDraws := s.ioDraws + 1
        delivered := s.delivered ++ [Config.ioRead s.ioDraws port]
        reply := .completed })) ∧
  (∀ (s : State) (write : Bool) (port data : Byte), s.clk.faulted = false →
    let w := waitCycles s .io (port.setWidth 16)
    let acc := s.clk.accCpu - w.toNat * 2 ^ 32
    let c := { s with clk := { s.clk with accCpu := acc, instrCost := s.clk.instrCost + w.setWidth 32 } }
    let x : PendingIo := ⟨write, port, if write then data else 0⟩
    let e := CpuEvent.io write port data
    let told := s.agentReplies ++ [.completed]
    (acc < -2 ^ 63 ∨ 2 ^ 63 ≤ acc →
      cpuEvent e s =
        { s with
          clk := { s.clk with faulted := true }
          reply := .fatal .cpu
          agentReplies := s.agentReplies ++ [.fatal .cpu] }) ∧
    (-2 ^ 63 ≤ acc → acc < 0 →
      cpuEvent e s = { c with clk := { c.clk with pendingIo := some x }, agentReplies := told }) ∧
    (0 ≤ acc → acc < 2 ^ 63 → cpuEvent e s = { performIo x c with agentReplies := told }))

/-- R409: CPU_END ends the instruction in progress, or is refused where that has charged no cycle. One that the host issues
while no instruction is in progress is refused as well, because R303 lets it start an instruction, which has charged none
(DEDUCED, log 18). Inside a slot step the agent's END does the same, and so is an event of the reserved kind refused there
(DEDUCED, log 19); it is the agent that gets the outcome, and a refusal sets `refused` alone (R900, R904; DEDUCED, log 25). -/
def Obligations.CpuEnd : Prop :=
  (∀ s : State, s.clk.faulted = false → s.clk.configured = true →
    (s.clk.inInstr = true → s.clk.instrCost ≠ 0 →
      exec .cpuEnd s = .next { s with clk := { s.clk with inInstr := false }, reply := .completed }) ∧
    (s.clk.inInstr = false ∨ s.clk.instrCost = 0 →
      exec .cpuEnd s = .next { s with clk := { s.clk with refused := true }, reply := .refused .zeroCycles })) ∧
  (∀ (s : State) (a : Half),
    let refusedAs := fun (r : RefuseReason) =>
      { s with clk := { s.clk with refused := true }, agentReplies := s.agentReplies ++ [.refused r] }
    (s.clk.instrCost = 0 → cpuEvent .fin s = refusedAs .zeroCycles) ∧
    (s.clk.instrCost ≠ 0 → s.clk.faulted = false →
      cpuEvent .fin s =
        { s with clk := { s.clk with inInstr := false }, agentReplies := s.agentReplies ++ [.completed] }) ∧
    cpuEvent (.mem 3 a) s = refusedAs (.encoding .reservedKind))

/-- R402, R404, R410: a slot step in which the CPU is not due, between instructions or with an access still held: observers
and sound, then the CPU's budget, then one video slot, and one more slot counted. No event of the CPU agent is taken. -/
def Obligations.SlotStepIdle : Prop :=
  ∀ s : State, s.clk.faulted = false → s.clk.configured = true →
    -2 ^ 32 ≤ s.clk.accSnd → s.clk.accSnd < 0 → s.clk.rSnd < 2 ^ 56 → -2 ^ 63 ≤ s.clk.accCpu →
    s.clk.accCpu + s.clk.rCpu < 0 → s.clk.pendingIo ≠ none ∨ s.clk.inInstr = false →
    let u := soundCatchUp (callObservers s)
    let w := { u with clk := { u.clk with accCpu := s.clk.accCpu + s.clk.rCpu }, slotOpen := false }
    exec .slotStep s = .next { videoSlot w with
      clk := { w.clk with slotCount := s.clk.slotCount + 1 }, reply := .completed }

/-- R402, R404 to R410: a slot step in which the CPU agent's next instruction is n cycles and no access, and uses up
the CPU's budget: the instruction starts, charges n cycles and ends, between the sound ticks and the video slot, and the
agent gets the completion of its two events (R900; DEDUCED, log 25). A step at which a held access is due performs it after the sound ticks and the CPU's budget, and goes on from there: a port of the
block's window is what the PW or PR of its offset is, and another port goes to the collaborator, whose answer is a free value
(DESIGN CHOICE, log 6). And CpuRun's loop whole, over the items of the CPU agent, which are the model's own list (DESIGN CHOICE,
log 5). With an instruction in progress or due and no access held, the next item is taken, in an instruction that has started:
an event, or a change the CPU made through the collaborator (DESIGN CHOICE, log 9); with no item there, the step waits (log 5).
A held access that is due is performed; one that is not, or a CPU between instructions that is not due, ends the CPU's work,
and the video slot follows and is counted; a FatalAssertion ends the step. -/
def Obligations.SlotStepOneInstruction : Prop :=
  (∀ (s : State) (n : Byte) (q : List CpuInput), s.clk.faulted = false → s.clk.configured = true →
    -2 ^ 32 ≤ s.clk.accSnd → s.clk.accSnd < 0 → s.clk.rSnd < 2 ^ 56 → s.clk.accCpu < 0 → s.clk.rCpu < 2 ^ 56 →
    s.clk.pendingIo = none → s.clk.inInstr = false → 0 ≤ s.clk.accCpu + s.clk.rCpu → n ≠ 0 →
    s.clk.accCpu + s.clk.rCpu - n.toNat * 2 ^ 32 < 0 →
    s.cpuIn = .event (.cycles n) :: .event .fin :: q →
    let u := soundCatchUp (callObservers s)
    let w := { u with
      clk := { u.clk with
        accCpu := s.clk.accCpu + s.clk.rCpu - n.toNat * 2 ^ 32, inInstr := false, instrCost := n.setWidth 32 }
      cpuIn := q
      agentReplies := s.agentReplies ++ [.completed, .completed]
      slotOpen := false }
    exec .slotStep s = .next { videoSlot w with
      clk := { w.clk with slotCount := s.clk.slotCount + 1 }, reply := .completed }) ∧
  (∀ (s : State) (x : PendingIo), s.clk.faulted = false → s.clk.configured = true →
    -2 ^ 32 ≤ s.clk.accSnd → s.clk.accSnd < 0 → s.clk.rSnd < 2 ^ 56 → s.clk.accCpu < 0 → s.clk.rCpu < 2 ^ 56 →
    s.clk.pendingIo = some x → 0 ≤ s.clk.accCpu + s.clk.rCpu →
    let u := soundCatchUp (callObservers s)
    exec .slotStep s = .next (slotRun (performIo x
      { u with clk := { u.clk with accCpu := s.clk.accCpu + s.clk.rCpu, pendingIo := none } }))) ∧
  (∀ (s : State) (port data : Byte), s.clk.faulted = false →
    let off := BitVec.ofNat 5 (port.toNat - s.params.portBase.toNat)
    let inside := s.params.portBase.toNat ≤ port.toNat ∧ port.toNat < s.params.portBase.toNat + 32
    (inside →
      exec (portWriteInstr off data) s = .next { performIo ⟨true, port, data⟩ s with reply := .completed } ∧
      ∃ b, exec (portReadInstr off) s = .next { s with reply := .byte b } ∧
        performIo ⟨false, port, data⟩ s = { s with delivered := s.delivered ++ [b] }) ∧
    (¬inside →
      performIo ⟨true, port, data⟩ s = { s with extIo := s.extIo ++ [.write port data] } ∧
      performIo ⟨false, port, data⟩ s = { s with
        extIo := s.extIo ++ [.read port]
        ioDraws := s.ioDraws + 1
        delivered := s.delivered ++ [Config.ioRead s.ioDraws port] })) ∧
  (∀ (s : State) (q : List CpuInput), s.clk.faulted = false → s.clk.pendingIo = none →
    s.clk.inInstr = true ∨ 0 ≤ s.clk.accCpu →
    let w := if s.clk.inInstr then s else { s with clk := { s.clk with inInstr := true, instrCost := 0 } }
    (∀ e, cpuRun (.event e :: q) s = cpuRun q (cpuEvent e w)) ∧
    (∀ c, cpuRun (.collab c :: q) s = cpuRun q (collaborate c w)) ∧
    cpuRun [] s = (.wants, { w with cpuIn := [] })) ∧
  (∀ (s : State) (x : PendingIo) (q : List CpuInput), s.clk.faulted = false → s.clk.pendingIo = some x →
    0 ≤ s.clk.accCpu → cpuRun q s = cpuRun q (performIo x { s with clk := { s.clk with pendingIo := none } })) ∧
  (∀ (s : State) (q : List CpuInput), s.clk.faulted = false → s.clk.accCpu < 0 →
    s.clk.pendingIo ≠ none ∨ s.clk.inInstr = false → cpuRun q s = (.done, { s with cpuIn := q })) ∧
  (∀ (s : State) (q : List CpuInput), s.clk.faulted = true → cpuRun q s = (.stopped, { s with cpuIn := q })) ∧
  (∀ s : State, slotRun s = slotFinish (cpuRun s.cpuIn s)) ∧
  (∀ t : State,
    (t.clk.faulted = false →
      slotFinish (.done, t) = { videoSlot { t with slotOpen := false } with
        clk := { t.clk with slotCount := t.clk.slotCount + 1 }, reply := .completed }) ∧
    slotFinish (.stopped, t) = { t with slotOpen := false } ∧
    slotFinish (.wants, t) = { t with slotOpen := true, reply := .pending })

/-- R402, R410, R414, and R904's refusals inside a step: whatever the CPU agent does, a slot step calls every observer once
with the raster position; one that completes has advanced the raster by exactly one slot and counted it; one that waits for
the CPU agent (DESIGN CHOICE, log 5) or stopped in a FatalAssertion has not. Memory changes only where the agent's own input
changes it. Of the agent's events exactly those taken have ended, each with one outcome returned to the agent (R900;
DEDUCED, log 25). The same of a step that goes on with a slot step that waited: it takes nothing of the host's, calls no observer
again, and performs no sound tick again. -/
def Obligations.SlotStepAdvancesOnce : Prop :=
  ∀ s : State, s.clk.faulted = false →
    let once := fun t : State =>
      (t.reply = .completed ∨ t.reply = .pending ∨ ∃ a, t.reply = .fatal a) ∧
      (t.reply = .completed →
        t.slotOpen = false ∧ t.clk.slotCount = s.clk.slotCount + 1 ∧
        t.vid.slot = if s.vid.slot.toNat + 1 = s.params.nslot then 0 else s.vid.slot + 1) ∧
      (t.reply = .pending →
        t.slotOpen = true ∧ t.cpuIn = [] ∧ t.clk.slotCount = s.clk.slotCount ∧ t.vid.slot = s.vid.slot) ∧
      (∀ a, t.reply = .fatal a → t.clk.slotCount = s.clk.slotCount ∧ t.vid.slot = s.vid.slot) ∧
      (∃ taken, s.cpuIn = taken ++ t.cpuIn ∧
        ∃ told, t.agentReplies = s.agentReplies ++ told ∧ told.length = taken.countP isCpuEvent) ∧
      ((∀ c, CpuInput.collab c ∉ s.cpuIn) →
        ∀ a, Memory.read t.mem a = Memory.read s.mem a ∧ Memory.read t.pageMap a = Memory.read s.pageMap a)
    (s.clk.configured = true →
      ∃ t, exec .slotStep s = .next t ∧
        t.observed = s.observed ++ s.params.observers.map (fun o => ⟨o, s.vid.line, s.vid.slot⟩) ∧ once t) ∧
    (s.slotOpen = true →
      ∃ t, step s = .next t ∧ t.observed = s.observed ∧ t.hostIn = s.hostIn ∧
        t.trace.countP Event.isSample = s.trace.countP Event.isSample ∧ once t)

/-- R403 and R411: a sound catch-up is as many whole SOUND_TICKs as are due, with acc_snd raised by R_snd and lowered by ONE
for each, and nothing else. Over K of them the ticks number floor((A0 + K·R_snd) / ONE) − floor(A0 / ONE), one sample each,
and the accumulator is in range again after each of them. -/
def Obligations.TickBudget : Prop :=
  ∀ (s : State) (K : Nat), s.clk.faulted = false → -2 ^ 32 ≤ s.clk.accSnd → s.clk.accSnd < 0 →
    s.clk.rSnd < 2 ^ 56 →
    let due := fun k : Nat => (s.clk.accSnd + k * s.clk.rSnd) / 2 ^ 32 - s.clk.accSnd / 2 ^ 32
    let t := soundCatchUp^[K] s
    (0 ≤ due 1 ∧
      soundCatchUp s = { soundTick^[(due 1).toNat] s with
        clk := { s.clk with accSnd := s.clk.accSnd + s.clk.rSnd - due 1 * 2 ^ 32 } }) ∧
    (t.trace.countP Event.isSample : Int) = s.trace.countP Event.isSample + due K ∧
    t.clk.accSnd = s.clk.accSnd + K * s.clk.rSnd - due K * 2 ^ 32 ∧
    -2 ^ 32 ≤ t.clk.accSnd ∧ t.clk.accSnd < 0

/-! ## Wait states -/

/-- R450, R454 to R456, R458: a query answers the contention table's entry for a contended page or for I/O, and the
constant of the memory mode for another page; it changes nothing. -/
def Obligations.WaitQuery : Prop :=
  ∀ (s : State) (a : Half) (port : Byte), s.clk.faulted = false → s.clk.configured = true →
    let seg := Memory.read s.pageMap (BitVec.ofNat 16 (a.toNat / 2 ^ s.params.pageShift))
    let contended := seg ∈ s.params.contended
    let step := phase s.clk
    let answers : Instr → Byte → Prop := fun i b => exec i s = .next { s with reply := .byte b }
    answers (.waitQueryIo port) (s.params.contIo.getD step 0) ∧
    (contended →
      answers (.waitQueryFetch a) (s.params.contFetch.getD step 0) ∧
      answers (.waitQueryRead a) (s.params.contData.getD step 0) ∧
      answers (.waitQueryWrite a) (s.params.contData.getD step 0)) ∧
    (¬contended →
      answers (.waitQueryFetch a) (if s.clk.memMode = .never then 0 else s.clk.nwait) ∧
      answers (.waitQueryRead a) (if s.clk.memMode = .always then s.clk.nwait else 0) ∧
      answers (.waitQueryWrite a) (if s.clk.memMode = .always then s.clk.nwait else 0))

/-- R452, R453, R457: the phase step is the quotient's, or 1 below it, and so always a step of the table; and a moment
one slot later has the same position, phase and waits. -/
def Obligations.PhaseStep : Prop :=
  ∀ s : State, 1 ≤ s.clk.rCpu → s.clk.rCpu < 2 ^ 56 → 1 ≤ s.params.phaseSteps →
    s.clk.recip = s.params.phaseSteps * 2 ^ 64 / s.clk.rCpu →
    let pos := slotPosition s.clk
    let exact := pos * s.params.phaseSteps / s.clk.rCpu
    let later := { s with clk := { s.clk with accCpu := s.clk.accCpu + s.clk.rCpu } }
    (pos : Int) = (s.clk.rCpu - s.clk.accCpu) % s.clk.rCpu ∧ pos < s.clk.rCpu ∧
    phase s.clk ≤ exact ∧ exact ≤ phase s.clk + 1 ∧ phase s.clk < s.params.phaseSteps ∧
    slotPosition later.clk = pos ∧ ∀ (k : AccessKind) (a : Half), waitCycles later k a = waitCycles s k a

/-! ## Snapshots -/

/-- R851 to R855, R860: a save changes nothing and answers the record: each field at its offset, multi-byte fields with the
most significant byte first. -/
def Obligations.SnapshotSave : Prop :=
  ∀ s : State, s.clk.faulted = false → s.vid.lineBuf.length < 2 ^ 16 → s.vid.linesLeft < 2 ^ 16 →
    (∃ d : List Byte, exec .snapshotSaveVideo s = .next { s with reply := .record d } ∧
      d.length = 57 + s.vid.lineBuf.length ∧ d.take 4 = [0, 0, 0, 1] ∧
      (d.drop 4).take 16 = s.vid.lpb.toList ∧ (d.drop 20).take 16 = s.vid.lpbBuf.toList ∧
      byteAt d 36 = s.vid.lptLo ∧ byteAt d 37 = s.vid.lptHi ∧ field16 d 38 = s.vid.lptCur ∧
      field16 d 40 = s.vid.line ∧ (byteAt d 42).toNat = s.vid.slot.toNat ∧
      byteAt d 43 = byteOfBool s.vid.needLpb ∧ (field16 d 44).toNat = s.vid.linesLeft ∧
      field16 d 46 = s.vid.ld1 ∧ field16 d 48 = s.vid.ld2 ∧ byteAt d 50 = byteOfBool s.vid.displayEn ∧
      byteAt d 51 = byteOfBool s.vid.vsync ∧ byteAt d 52 = s.vid.border ∧ byteAt d 53 = s.vid.fixbias ∧
      byteAt d 54 = s.vid.busLast ∧ (field16 d 55).toNat = s.vid.lineBuf.length ∧
      d.drop 57 = s.vid.lineBuf) ∧
    (∃ d : List Byte, exec .snapshotSaveSound s = .next { s with reply := .record d } ∧
      d.length = 37 ∧ d.take 4 = [0, 0, 0, 1] ∧ (d.drop 4).take 16 = s.snd.reg.toList ∧
      (∀ c : Fin 3, (field16 d (20 + 2 * c.val)).toNat = s.snd.toneCnt[c].toNat ∧
        byteAt d (26 + c.val) = byteOfBool s.snd.toneOut[c]) ∧
      byteAt d 29 = s.snd.noiseCnt ∧ (field24 d 30).toNat = s.snd.lfsr.toNat ∧
      byteAt d 33 = byteOfBool s.snd.noiseOut ∧ byteAt d 34 = s.snd.envCnt ∧
      (byteAt d 35).toNat = s.snd.envPos.toNat ∧ byteAt d 36 = byteOfDir s.snd.envDir) ∧
    (∃ d : List Byte, exec .snapshotSaveInt s = .next { s with reply := .record d } ∧
      d.length = 15 ∧ d.take 4 = [0, 0, 0, 1] ∧
      (∀ k : Fin 4, (byteAt d 4).getLsbD (2 * k.val) = s.intr.level[k] ∧
        (byteAt d 4).getLsbD (2 * k.val + 1) = s.intr.latch[k] ∧
        (byteAt d 5).getLsbD k.val = s.intr.enable[k]) ∧
      (byteAt d 5).toNat < 16 ∧ byteAt d 6 = byteOfBool s.intr.irq ∧
      field32 d 7 = s.intr.timerCnt ∧ field32 d 11 = s.intr.onehzCnt)

/-- R861, R863, for the units that pass the checks: a load of the record a save of them gives puts exactly them into the
state, and tells a change of the interrupt line. So a load of a state's own record leaves it as it was. A running 1 Hz count
at or past a lowered half period is the one reachable case that does not pass: R859 (e) and R861 reject its record, with the
interrupt unit at power-on, where R863 would give it back (DEDUCED, log 12). -/
def Obligations.SnapshotRoundTrip : Prop :=
  ∀ (s : State) (v : Vid) (n : Snd) (k : Intr), s.clk.faulted = false → s.params.legal →
    (VideoInv { s with vid := v } →
      exec (.snapshotLoadVideo (videoRecord v)) s = .next { s with vid := v, reply := .completed }) ∧
    (NoiseInv { s with snd := n } →
      exec (.snapshotLoadSound (soundRecord n)) s = .next { s with snd := n, reply := .completed }) ∧
    (IrqInv { s with intr := k } → k.onehzCnt.toNat < s.clk.onehzHalf.toNat →
      exec (.snapshotLoadInt (intRecord k)) s = .next { s with
        intr := k
        trace := s.trace ++ lineEvents s.intr.irq k.irq
        reply := .completed }) ∧
    (IrqInv { s with intr := k } → s.clk.onehzHalf.toNat ≤ k.onehzCnt.toNat →
      exec (.snapshotLoadInt (intRecord k)) s = .next { s with
        intr := Intr.reset
        trace := s.trace ++ lineEvents s.intr.irq false
        reply := .snapshotError .int (.sf4 .r859e) })

/-- R861, R862, R902: a load of a record that is too short, has another version tag, or has bytes after its end fails with
the code of the first check that fails; the loaded subsystem is at its power-on state, and nothing else has changed but for
IrqClear where the interrupt unit's line was up. Which letter the error records for a record that breaks several checks is
the model's (DEDUCED, log 24). -/
def Obligations.SnapshotLoadFails : Prop :=
  ∀ (s : State) (d : List Byte), s.clk.faulted = false →
    let tagged := d.take 4 = [0, 0, 0, 1]
    let vLen := 57 + (field16 d 55).toNat
    let failsV := fun c : SnapshotError =>
      exec (.snapshotLoadVideo d) s = .next { s with vid := Vid.reset, reply := .snapshotError .video c }
    let failsS := fun c : SnapshotError =>
      exec (.snapshotLoadSound d) s = .next { s with snd := Snd.reset, reply := .snapshotError .sound c }
    let failsI := fun c : SnapshotError =>
      exec (.snapshotLoadInt d) s = .next { s with
        intr := Intr.reset
        trace := s.trace ++ lineEvents s.intr.irq false
        reply := .snapshotError .int c }
    (d.length < 4 → failsV .sf1 ∧ failsS .sf1 ∧ failsI .sf1) ∧
    (4 ≤ d.length → ¬tagged → failsV .sf2 ∧ failsS .sf2 ∧ failsI .sf2) ∧
    (4 ≤ d.length → tagged → d.length < 57 ∨ d.length < vLen → failsV .sf1) ∧
    (4 ≤ d.length → tagged → d.length < 37 → failsS .sf1) ∧
    (4 ≤ d.length → tagged → d.length < 15 → failsI .sf1) ∧
    (tagged → 57 ≤ d.length → vLen < d.length → failsV .sf3) ∧
    (tagged → 37 < d.length → failsS .sf3) ∧
    (tagged → 15 < d.length → failsI .sf3) ∧
    (∀ c, tagged → 57 ≤ d.length → d.length = vLen → videoBroken s.params d = some c → failsV (.sf4 c)) ∧
    (∀ c, tagged → d.length = 37 → soundBroken d = some c → failsS (.sf4 c)) ∧
    (∀ c, tagged → d.length = 15 → intBroken s.params s.clk d = some c → failsI (.sf4 c))

/-! ## Reset -/

/-- R1000: RESET puts every field of the four units at its reset value, in every state, and emits IrqClear where the
line was up; the parameters and the collaborator's memories are kept. That it keeps the outputs
and the inputs is read from what R1000 does not reset (DEDUCED, log 13), and slotOpen is the model's own field (DESIGN CHOICE,
log 5). -/
def Obligations.Reset : Prop :=
  ∀ s : State, exec .reset s = .next { s with
    clk := {
      accCpu := -1, accSnd := -1, rCpu := 0, rSnd := 0, recip := 0, configured := false, memMode := .never, nwait := 0
      slotCount := 0, inInstr := false, instrCost := 0, pendingIo := none, onehzHalf := 1, faulted := false
      refused := false }
    vid := {
      slot := 0, line := 0, lptBase := 0, lptLo := 0, lptHi := 0, lptCur := 0, needLpb := true, linesLeft := 0
      lpbBuf := #v[0, 0, 0, 0, 0, 0, 0, 0, 0, 0, 0, 0, 0, 0, 0, 0]
      lpb := #v[0, 0, 0, 0, 0, 0, 0, 0, 0, 0, 0, 0, 0, 0, 0, 0]
      ld1 := 0, ld2 := 0, displayEn := false, vsync := false, border := 0, fixbias := 0, busLast := 0, lineBuf := [] }
    snd := {
      reg := #v[0, 0, 0, 0, 0, 0, 0, 0, 0, 0, 0, 0, 0, 0, 0, 0]
      toneCnt := #v[0, 0, 0], toneOut := #v[false, false, false], noiseCnt := 0, lfsr := 0xF, noiseOut := true
      envCnt := 0, envPos := 0, envDir := .still }
    intr := {
      level := #v[true, true, false, true], latch := #v[false, false, false, false]
      enable := #v[false, false, false, false], irq := false, timerCnt := 0, onehzCnt := 0 }
    slotOpen := false
    trace := s.trace ++ (if s.intr.irq then [.irqClear] else [])
    reply := .completed }

/-- R401, R1001: construction succeeds on exactly the legal parameters, and gives the state that RESET gives, whatever
state RESET starts from; and every invariant holds there, and at the model's reset state (its parameters are a DESIGN CHOICE, log 2). -/
def Obligations.PowerOn : Prop :=
  (∀ p : Params, p.legal →
    construct p = .ok (State.powerOn p) ∧ Inv (State.powerOn p) ∧ TraceInv (State.powerOn p)) ∧
  (∀ p : Params, ¬p.legal → construct p = .error .ce5) ∧
  (∀ (s t : State), exec .reset s = .next t →
    t.clk = (State.powerOn s.params).clk ∧ t.vid = (State.powerOn s.params).vid ∧
    t.snd = (State.powerOn s.params).snd ∧ t.intr = (State.powerOn s.params).intr) ∧
  Inv State.reset ∧ TraceInv State.reset

/-! ## What every step keeps -/

/-- Every step keeps the parameters' legality and the canonical form of the collaborator's two stores, a form that is the
model's own (DESIGN CHOICE, log 4). On stores in that form a read returns the last write (R209): a poke is read back from its
address and a page's segment from its page, and every other address of the two stores, and all else of the state, stays as
it was (that the changes are inputs of their own is a DESIGN CHOICE, log 9). -/
def Obligations.StepKeepsMemory : Prop :=
  (∀ s : State, OuterInv s → Next (step s) OuterInv) ∧
  (∀ (s : State) (a b : Half) (v : Byte), OuterInv s →
    let t := collaborate (.poke a v) s
    t = { s with mem := t.mem } ∧ Memory.read t.mem b = if b = a then v else Memory.read s.mem b) ∧
  (∀ (s : State) (a b : Half) (v : Byte), OuterInv s →
    let t := collaborate (.mapPage a v) s
    t = { s with pageMap := t.pageMap } ∧ Memory.read t.pageMap b = if b = a then v else Memory.read s.pageMap b)

/-- R104, R400, R412: every step keeps the accumulators in range, and the ratios and the reciprocal as CONFIGURE leaves
them. -/
def Obligations.StepKeepsScheduler : Prop :=
  ∀ s : State, AccInv s → ConfigInv s → Next (step s) fun t => AccInv t ∧ ConfigInv t

/-- R540, R541, R530: every step keeps the video invariant, with one pixel group in the line buffer for each slot done. -/
def Obligations.StepKeepsVideo : Prop :=
  ∀ s : State, OuterInv s → VideoInv s → Next (step s) VideoInv

/-- R120, R724, R725: every step keeps the noise register within the current width, and never 0. -/
def Obligations.StepKeepsNoise : Prop :=
  ∀ s : State, NoiseInv s → Next (step s) NoiseInv

/-- R801, R804: every step keeps the interrupt line equal to the OR of the enabled latches, and the timer count below its
period. -/
def Obligations.StepKeepsIrq : Prop :=
  ∀ s : State, OuterInv s → IrqInv s → Next (step s) IrqInv

/-- R801: over every step the interrupt events of the trace alternate, and end with the line as it is, so that two
IrqRequest events always have an IrqClear between them. -/
def Obligations.StepKeepsTrace : Prop :=
  ∀ s : State, TraceInv s → Next (step s) TraceInv
end

