-- ==== Sys2Proof/Laws/Decode.lean ====
section
/-! SUPPORT. The two bytes of a header, and the fields of the operand words the encoder builds. -/

namespace Sys2Proof

/-- The high part of two values put together. -/
theorem append_high {v w : Nat} (x : BitVec v) (y : BitVec w) : (x ++ y).extractLsb' w v = x := by
  apply BitVec.eq_of_getLsbD_eq; intro i h
  simp [BitVec.getLsbD_append, h]

/-- The low part of two values put together. -/
theorem append_low {v w : Nat} (x : BitVec v) (y : BitVec w) : (x ++ y).extractLsb' 0 w = y := by
  apply BitVec.eq_of_getLsbD_eq; intro i h
  simp [BitVec.getLsbD_append, h]

@[simp] theorem header_high (hi lo : Byte) : (hi ++ lo : Half).extractLsb' 8 8 = hi := append_high hi lo

@[simp] theorem header_low (hi lo : Byte) : (hi ++ lo : Half).extractLsb' 0 8 = lo := append_low hi lo

/-- The decoder reads a packet through its header's two bytes. -/
theorem decode_packetOf (hi lo : Byte) (ws : List Word32) (bs : List Byte) :
    decode (packetOf hi lo ws bs) = decodeHeader hi lo { header := hi ++ lo, words := ws, bytes := bs } := by
  simp only [decode, packetOf, decodePacket, header_high, header_low]

@[simp] theorem wordAddr_addrWord (a : Half) : wordAddr (addrWord a) = a := append_low (0 : Half) a

/-- A byte of the low half of a word. -/
theorem low_half (x y : Half) (i : Nat) (h : i + 8 ≤ 16) :
    (x ++ y : Word32).extractLsb' i 8 = y.extractLsb' i 8 := by
  apply BitVec.eq_of_getLsbD_eq; intro j hj
  have e : (x ++ y : BitVec (16 + 16)).getLsbD (i + j) = y.getLsbD (i + j) := by
    rw [BitVec.getLsbD_append, if_pos (by omega)]
  simpa [BitVec.getLsbD_extractLsb', hj] using e

@[simp] theorem wordLow_ioWord (port data : Byte) : wordLow (ioWord port data) = port := by
  rw [wordLow, ioWord, low_half _ _ 0 (by omega)]; exact append_low data port

@[simp] theorem wordData_ioWord (port data : Byte) : wordData (ioWord port data) = data := by
  rw [wordData, ioWord, low_half _ _ 8 (by omega)]; exact append_high data port

end Sys2Proof
end

