-- ==== Sys2Proof/Laws/State.lean ====
section
/-! SUPPORT. One lemma per field per named update of State, so that no proof unfolds an update. -/

namespace Sys2Proof.Machine

/-! ## State.setClk -/

@[simp] theorem State.setClk_params (s : State) (x : Clk) : (s.setClk x).params = s.params := rfl
@[simp] theorem State.setClk_clk (s : State) (x : Clk) : (s.setClk x).clk = x := rfl
@[simp] theorem State.setClk_vid (s : State) (x : Clk) : (s.setClk x).vid = s.vid := rfl
@[simp] theorem State.setClk_snd (s : State) (x : Clk) : (s.setClk x).snd = s.snd := rfl
@[simp] theorem State.setClk_intr (s : State) (x : Clk) : (s.setClk x).intr = s.intr := rfl
@[simp] theorem State.setClk_mem (s : State) (x : Clk) : (s.setClk x).mem = s.mem := rfl
@[simp] theorem State.setClk_pageMap (s : State) (x : Clk) : (s.setClk x).pageMap = s.pageMap := rfl
@[simp] theorem State.setClk_trace (s : State) (x : Clk) : (s.setClk x).trace = s.trace := rfl
@[simp] theorem State.setClk_observed (s : State) (x : Clk) : (s.setClk x).observed = s.observed := rfl
@[simp] theorem State.setClk_delivered (s : State) (x : Clk) : (s.setClk x).delivered = s.delivered := rfl
@[simp] theorem State.setClk_agentReplies (s : State) (x : Clk) :
    (s.setClk x).agentReplies = s.agentReplies := rfl
@[simp] theorem State.setClk_extIo (s : State) (x : Clk) : (s.setClk x).extIo = s.extIo := rfl
@[simp] theorem State.setClk_ioDraws (s : State) (x : Clk) : (s.setClk x).ioDraws = s.ioDraws := rfl
@[simp] theorem State.setClk_reply (s : State) (x : Clk) : (s.setClk x).reply = s.reply := rfl
@[simp] theorem State.setClk_slotOpen (s : State) (x : Clk) : (s.setClk x).slotOpen = s.slotOpen := rfl
@[simp] theorem State.setClk_cpuIn (s : State) (x : Clk) : (s.setClk x).cpuIn = s.cpuIn := rfl
@[simp] theorem State.setClk_hostIn (s : State) (x : Clk) : (s.setClk x).hostIn = s.hostIn := rfl

/-! ## State.setVid -/

@[simp] theorem State.setVid_params (s : State) (x : Vid) : (s.setVid x).params = s.params := rfl
@[simp] theorem State.setVid_clk (s : State) (x : Vid) : (s.setVid x).clk = s.clk := rfl
@[simp] theorem State.setVid_vid (s : State) (x : Vid) : (s.setVid x).vid = x := rfl
@[simp] theorem State.setVid_snd (s : State) (x : Vid) : (s.setVid x).snd = s.snd := rfl
@[simp] theorem State.setVid_intr (s : State) (x : Vid) : (s.setVid x).intr = s.intr := rfl
@[simp] theorem State.setVid_mem (s : State) (x : Vid) : (s.setVid x).mem = s.mem := rfl
@[simp] theorem State.setVid_pageMap (s : State) (x : Vid) : (s.setVid x).pageMap = s.pageMap := rfl
@[simp] theorem State.setVid_trace (s : State) (x : Vid) : (s.setVid x).trace = s.trace := rfl
@[simp] theorem State.setVid_observed (s : State) (x : Vid) : (s.setVid x).observed = s.observed := rfl
@[simp] theorem State.setVid_delivered (s : State) (x : Vid) : (s.setVid x).delivered = s.delivered := rfl
@[simp] theorem State.setVid_agentReplies (s : State) (x : Vid) :
    (s.setVid x).agentReplies = s.agentReplies := rfl
@[simp] theorem State.setVid_extIo (s : State) (x : Vid) : (s.setVid x).extIo = s.extIo := rfl
@[simp] theorem State.setVid_ioDraws (s : State) (x : Vid) : (s.setVid x).ioDraws = s.ioDraws := rfl
@[simp] theorem State.setVid_reply (s : State) (x : Vid) : (s.setVid x).reply = s.reply := rfl
@[simp] theorem State.setVid_slotOpen (s : State) (x : Vid) : (s.setVid x).slotOpen = s.slotOpen := rfl
@[simp] theorem State.setVid_cpuIn (s : State) (x : Vid) : (s.setVid x).cpuIn = s.cpuIn := rfl
@[simp] theorem State.setVid_hostIn (s : State) (x : Vid) : (s.setVid x).hostIn = s.hostIn := rfl

/-! ## State.setSnd -/

@[simp] theorem State.setSnd_params (s : State) (x : Snd) : (s.setSnd x).params = s.params := rfl
@[simp] theorem State.setSnd_clk (s : State) (x : Snd) : (s.setSnd x).clk = s.clk := rfl
@[simp] theorem State.setSnd_vid (s : State) (x : Snd) : (s.setSnd x).vid = s.vid := rfl
@[simp] theorem State.setSnd_snd (s : State) (x : Snd) : (s.setSnd x).snd = x := rfl
@[simp] theorem State.setSnd_intr (s : State) (x : Snd) : (s.setSnd x).intr = s.intr := rfl
@[simp] theorem State.setSnd_mem (s : State) (x : Snd) : (s.setSnd x).mem = s.mem := rfl
@[simp] theorem State.setSnd_pageMap (s : State) (x : Snd) : (s.setSnd x).pageMap = s.pageMap := rfl
@[simp] theorem State.setSnd_trace (s : State) (x : Snd) : (s.setSnd x).trace = s.trace := rfl
@[simp] theorem State.setSnd_observed (s : State) (x : Snd) : (s.setSnd x).observed = s.observed := rfl
@[simp] theorem State.setSnd_delivered (s : State) (x : Snd) : (s.setSnd x).delivered = s.delivered := rfl
@[simp] theorem State.setSnd_agentReplies (s : State) (x : Snd) :
    (s.setSnd x).agentReplies = s.agentReplies := rfl
@[simp] theorem State.setSnd_extIo (s : State) (x : Snd) : (s.setSnd x).extIo = s.extIo := rfl
@[simp] theorem State.setSnd_ioDraws (s : State) (x : Snd) : (s.setSnd x).ioDraws = s.ioDraws := rfl
@[simp] theorem State.setSnd_reply (s : State) (x : Snd) : (s.setSnd x).reply = s.reply := rfl
@[simp] theorem State.setSnd_slotOpen (s : State) (x : Snd) : (s.setSnd x).slotOpen = s.slotOpen := rfl
@[simp] theorem State.setSnd_cpuIn (s : State) (x : Snd) : (s.setSnd x).cpuIn = s.cpuIn := rfl
@[simp] theorem State.setSnd_hostIn (s : State) (x : Snd) : (s.setSnd x).hostIn = s.hostIn := rfl

/-! ## State.setIntr -/

@[simp] theorem State.setIntr_params (s : State) (x : Intr) : (s.setIntr x).params = s.params := rfl
@[simp] theorem State.setIntr_clk (s : State) (x : Intr) : (s.setIntr x).clk = s.clk := rfl
@[simp] theorem State.setIntr_vid (s : State) (x : Intr) : (s.setIntr x).vid = s.vid := rfl
@[simp] theorem State.setIntr_snd (s : State) (x : Intr) : (s.setIntr x).snd = s.snd := rfl
@[simp] theorem State.setIntr_intr (s : State) (x : Intr) : (s.setIntr x).intr = x := rfl
@[simp] theorem State.setIntr_mem (s : State) (x : Intr) : (s.setIntr x).mem = s.mem := rfl
@[simp] theorem State.setIntr_pageMap (s : State) (x : Intr) : (s.setIntr x).pageMap = s.pageMap := rfl
@[simp] theorem State.setIntr_trace (s : State) (x : Intr) : (s.setIntr x).trace = s.trace := rfl
@[simp] theorem State.setIntr_observed (s : State) (x : Intr) : (s.setIntr x).observed = s.observed := rfl
@[simp] theorem State.setIntr_delivered (s : State) (x : Intr) : (s.setIntr x).delivered = s.delivered := rfl
@[simp] theorem State.setIntr_agentReplies (s : State) (x : Intr) :
    (s.setIntr x).agentReplies = s.agentReplies := rfl
@[simp] theorem State.setIntr_extIo (s : State) (x : Intr) : (s.setIntr x).extIo = s.extIo := rfl
@[simp] theorem State.setIntr_ioDraws (s : State) (x : Intr) : (s.setIntr x).ioDraws = s.ioDraws := rfl
@[simp] theorem State.setIntr_reply (s : State) (x : Intr) : (s.setIntr x).reply = s.reply := rfl
@[simp] theorem State.setIntr_slotOpen (s : State) (x : Intr) : (s.setIntr x).slotOpen = s.slotOpen := rfl
@[simp] theorem State.setIntr_cpuIn (s : State) (x : Intr) : (s.setIntr x).cpuIn = s.cpuIn := rfl
@[simp] theorem State.setIntr_hostIn (s : State) (x : Intr) : (s.setIntr x).hostIn = s.hostIn := rfl

/-! ## State.setReply -/

@[simp] theorem State.setReply_params (s : State) (x : Reply) : (s.setReply x).params = s.params := rfl
@[simp] theorem State.setReply_clk (s : State) (x : Reply) : (s.setReply x).clk = s.clk := rfl
@[simp] theorem State.setReply_vid (s : State) (x : Reply) : (s.setReply x).vid = s.vid := rfl
@[simp] theorem State.setReply_snd (s : State) (x : Reply) : (s.setReply x).snd = s.snd := rfl
@[simp] theorem State.setReply_intr (s : State) (x : Reply) : (s.setReply x).intr = s.intr := rfl
@[simp] theorem State.setReply_mem (s : State) (x : Reply) : (s.setReply x).mem = s.mem := rfl
@[simp] theorem State.setReply_pageMap (s : State) (x : Reply) : (s.setReply x).pageMap = s.pageMap := rfl
@[simp] theorem State.setReply_trace (s : State) (x : Reply) : (s.setReply x).trace = s.trace := rfl
@[simp] theorem State.setReply_observed (s : State) (x : Reply) : (s.setReply x).observed = s.observed := rfl
@[simp] theorem State.setReply_delivered (s : State) (x : Reply) : (s.setReply x).delivered = s.delivered := rfl
@[simp] theorem State.setReply_agentReplies (s : State) (x : Reply) :
    (s.setReply x).agentReplies = s.agentReplies := rfl
@[simp] theorem State.setReply_extIo (s : State) (x : Reply) : (s.setReply x).extIo = s.extIo := rfl
@[simp] theorem State.setReply_ioDraws (s : State) (x : Reply) : (s.setReply x).ioDraws = s.ioDraws := rfl
@[simp] theorem State.setReply_reply (s : State) (x : Reply) : (s.setReply x).reply = x := rfl
@[simp] theorem State.setReply_slotOpen (s : State) (x : Reply) : (s.setReply x).slotOpen = s.slotOpen := rfl
@[simp] theorem State.setReply_cpuIn (s : State) (x : Reply) : (s.setReply x).cpuIn = s.cpuIn := rfl
@[simp] theorem State.setReply_hostIn (s : State) (x : Reply) : (s.setReply x).hostIn = s.hostIn := rfl

/-! ## State.setSlotOpen -/

@[simp] theorem State.setSlotOpen_params (s : State) (x : Bool) : (s.setSlotOpen x).params = s.params := rfl
@[simp] theorem State.setSlotOpen_clk (s : State) (x : Bool) : (s.setSlotOpen x).clk = s.clk := rfl
@[simp] theorem State.setSlotOpen_vid (s : State) (x : Bool) : (s.setSlotOpen x).vid = s.vid := rfl
@[simp] theorem State.setSlotOpen_snd (s : State) (x : Bool) : (s.setSlotOpen x).snd = s.snd := rfl
@[simp] theorem State.setSlotOpen_intr (s : State) (x : Bool) : (s.setSlotOpen x).intr = s.intr := rfl
@[simp] theorem State.setSlotOpen_mem (s : State) (x : Bool) : (s.setSlotOpen x).mem = s.mem := rfl
@[simp] theorem State.setSlotOpen_pageMap (s : State) (x : Bool) : (s.setSlotOpen x).pageMap = s.pageMap := rfl
@[simp] theorem State.setSlotOpen_trace (s : State) (x : Bool) : (s.setSlotOpen x).trace = s.trace := rfl
@[simp] theorem State.setSlotOpen_observed (s : State) (x : Bool) : (s.setSlotOpen x).observed = s.observed := rfl
@[simp] theorem State.setSlotOpen_delivered (s : State) (x : Bool) : (s.setSlotOpen x).delivered = s.delivered := rfl
@[simp] theorem State.setSlotOpen_agentReplies (s : State) (x : Bool) :
    (s.setSlotOpen x).agentReplies = s.agentReplies := rfl
@[simp] theorem State.setSlotOpen_extIo (s : State) (x : Bool) : (s.setSlotOpen x).extIo = s.extIo := rfl
@[simp] theorem State.setSlotOpen_ioDraws (s : State) (x : Bool) : (s.setSlotOpen x).ioDraws = s.ioDraws := rfl
@[simp] theorem State.setSlotOpen_reply (s : State) (x : Bool) : (s.setSlotOpen x).reply = s.reply := rfl
@[simp] theorem State.setSlotOpen_slotOpen (s : State) (x : Bool) : (s.setSlotOpen x).slotOpen = x := rfl
@[simp] theorem State.setSlotOpen_cpuIn (s : State) (x : Bool) : (s.setSlotOpen x).cpuIn = s.cpuIn := rfl
@[simp] theorem State.setSlotOpen_hostIn (s : State) (x : Bool) : (s.setSlotOpen x).hostIn = s.hostIn := rfl

/-! ## State.setCpuIn -/

@[simp] theorem State.setCpuIn_params (s : State) (x : List CpuInput) : (s.setCpuIn x).params = s.params := rfl
@[simp] theorem State.setCpuIn_clk (s : State) (x : List CpuInput) : (s.setCpuIn x).clk = s.clk := rfl
@[simp] theorem State.setCpuIn_vid (s : State) (x : List CpuInput) : (s.setCpuIn x).vid = s.vid := rfl
@[simp] theorem State.setCpuIn_snd (s : State) (x : List CpuInput) : (s.setCpuIn x).snd = s.snd := rfl
@[simp] theorem State.setCpuIn_intr (s : State) (x : List CpuInput) : (s.setCpuIn x).intr = s.intr := rfl
@[simp] theorem State.setCpuIn_mem (s : State) (x : List CpuInput) : (s.setCpuIn x).mem = s.mem := rfl
@[simp] theorem State.setCpuIn_pageMap (s : State) (x : List CpuInput) : (s.setCpuIn x).pageMap = s.pageMap := rfl
@[simp] theorem State.setCpuIn_trace (s : State) (x : List CpuInput) : (s.setCpuIn x).trace = s.trace := rfl
@[simp] theorem State.setCpuIn_observed (s : State) (x : List CpuInput) : (s.setCpuIn x).observed = s.observed := rfl
@[simp] theorem State.setCpuIn_delivered (s : State) (x : List CpuInput) : (s.setCpuIn x).delivered = s.delivered := rfl
@[simp] theorem State.setCpuIn_agentReplies (s : State) (x : List CpuInput) :
    (s.setCpuIn x).agentReplies = s.agentReplies := rfl
@[simp] theorem State.setCpuIn_extIo (s : State) (x : List CpuInput) : (s.setCpuIn x).extIo = s.extIo := rfl
@[simp] theorem State.setCpuIn_ioDraws (s : State) (x : List CpuInput) : (s.setCpuIn x).ioDraws = s.ioDraws := rfl
@[simp] theorem State.setCpuIn_reply (s : State) (x : List CpuInput) : (s.setCpuIn x).reply = s.reply := rfl
@[simp] theorem State.setCpuIn_slotOpen (s : State) (x : List CpuInput) : (s.setCpuIn x).slotOpen = s.slotOpen := rfl
@[simp] theorem State.setCpuIn_cpuIn (s : State) (x : List CpuInput) : (s.setCpuIn x).cpuIn = x := rfl
@[simp] theorem State.setCpuIn_hostIn (s : State) (x : List CpuInput) : (s.setCpuIn x).hostIn = s.hostIn := rfl

/-! ## State.emit -/

@[simp] theorem State.emit_params (s : State) (x : Event) : (s.emit x).params = s.params := rfl
@[simp] theorem State.emit_clk (s : State) (x : Event) : (s.emit x).clk = s.clk := rfl
@[simp] theorem State.emit_vid (s : State) (x : Event) : (s.emit x).vid = s.vid := rfl
@[simp] theorem State.emit_snd (s : State) (x : Event) : (s.emit x).snd = s.snd := rfl
@[simp] theorem State.emit_intr (s : State) (x : Event) : (s.emit x).intr = s.intr := rfl
@[simp] theorem State.emit_mem (s : State) (x : Event) : (s.emit x).mem = s.mem := rfl
@[simp] theorem State.emit_pageMap (s : State) (x : Event) : (s.emit x).pageMap = s.pageMap := rfl
@[simp] theorem State.emit_trace (s : State) (x : Event) : (s.emit x).trace = s.trace ++ [x] := rfl
@[simp] theorem State.emit_observed (s : State) (x : Event) : (s.emit x).observed = s.observed := rfl
@[simp] theorem State.emit_delivered (s : State) (x : Event) : (s.emit x).delivered = s.delivered := rfl
@[simp] theorem State.emit_agentReplies (s : State) (x : Event) :
    (s.emit x).agentReplies = s.agentReplies := rfl
@[simp] theorem State.emit_extIo (s : State) (x : Event) : (s.emit x).extIo = s.extIo := rfl
@[simp] theorem State.emit_ioDraws (s : State) (x : Event) : (s.emit x).ioDraws = s.ioDraws := rfl
@[simp] theorem State.emit_reply (s : State) (x : Event) : (s.emit x).reply = s.reply := rfl
@[simp] theorem State.emit_slotOpen (s : State) (x : Event) : (s.emit x).slotOpen = s.slotOpen := rfl
@[simp] theorem State.emit_cpuIn (s : State) (x : Event) : (s.emit x).cpuIn = s.cpuIn := rfl
@[simp] theorem State.emit_hostIn (s : State) (x : Event) : (s.emit x).hostIn = s.hostIn := rfl

/-! ## State.deliver -/

@[simp] theorem State.deliver_params (s : State) (x : Byte) : (s.deliver x).params = s.params := rfl
@[simp] theorem State.deliver_clk (s : State) (x : Byte) : (s.deliver x).clk = s.clk := rfl
@[simp] theorem State.deliver_vid (s : State) (x : Byte) : (s.deliver x).vid = s.vid := rfl
@[simp] theorem State.deliver_snd (s : State) (x : Byte) : (s.deliver x).snd = s.snd := rfl
@[simp] theorem State.deliver_intr (s : State) (x : Byte) : (s.deliver x).intr = s.intr := rfl
@[simp] theorem State.deliver_mem (s : State) (x : Byte) : (s.deliver x).mem = s.mem := rfl
@[simp] theorem State.deliver_pageMap (s : State) (x : Byte) : (s.deliver x).pageMap = s.pageMap := rfl
@[simp] theorem State.deliver_trace (s : State) (x : Byte) : (s.deliver x).trace = s.trace := rfl
@[simp] theorem State.deliver_observed (s : State) (x : Byte) : (s.deliver x).observed = s.observed := rfl
@[simp] theorem State.deliver_delivered (s : State) (x : Byte) : (s.deliver x).delivered = s.delivered ++ [x] := rfl
@[simp] theorem State.deliver_agentReplies (s : State) (x : Byte) :
    (s.deliver x).agentReplies = s.agentReplies := rfl
@[simp] theorem State.deliver_extIo (s : State) (x : Byte) : (s.deliver x).extIo = s.extIo := rfl
@[simp] theorem State.deliver_ioDraws (s : State) (x : Byte) : (s.deliver x).ioDraws = s.ioDraws := rfl
@[simp] theorem State.deliver_reply (s : State) (x : Byte) : (s.deliver x).reply = s.reply := rfl
@[simp] theorem State.deliver_slotOpen (s : State) (x : Byte) : (s.deliver x).slotOpen = s.slotOpen := rfl
@[simp] theorem State.deliver_cpuIn (s : State) (x : Byte) : (s.deliver x).cpuIn = s.cpuIn := rfl
@[simp] theorem State.deliver_hostIn (s : State) (x : Byte) : (s.deliver x).hostIn = s.hostIn := rfl

/-! ## State.tellAgent -/

@[simp] theorem State.tellAgent_params (s : State) (x : Reply) : (s.tellAgent x).params = s.params := rfl
@[simp] theorem State.tellAgent_clk (s : State) (x : Reply) : (s.tellAgent x).clk = s.clk := rfl
@[simp] theorem State.tellAgent_vid (s : State) (x : Reply) : (s.tellAgent x).vid = s.vid := rfl
@[simp] theorem State.tellAgent_snd (s : State) (x : Reply) : (s.tellAgent x).snd = s.snd := rfl
@[simp] theorem State.tellAgent_intr (s : State) (x : Reply) : (s.tellAgent x).intr = s.intr := rfl
@[simp] theorem State.tellAgent_mem (s : State) (x : Reply) : (s.tellAgent x).mem = s.mem := rfl
@[simp] theorem State.tellAgent_pageMap (s : State) (x : Reply) : (s.tellAgent x).pageMap = s.pageMap := rfl
@[simp] theorem State.tellAgent_trace (s : State) (x : Reply) : (s.tellAgent x).trace = s.trace := rfl
@[simp] theorem State.tellAgent_observed (s : State) (x : Reply) : (s.tellAgent x).observed = s.observed := rfl
@[simp] theorem State.tellAgent_delivered (s : State) (x : Reply) : (s.tellAgent x).delivered = s.delivered := rfl
@[simp] theorem State.tellAgent_agentReplies (s : State) (x : Reply) :
    (s.tellAgent x).agentReplies = s.agentReplies ++ [x] := rfl
@[simp] theorem State.tellAgent_extIo (s : State) (x : Reply) : (s.tellAgent x).extIo = s.extIo := rfl
@[simp] theorem State.tellAgent_ioDraws (s : State) (x : Reply) : (s.tellAgent x).ioDraws = s.ioDraws := rfl
@[simp] theorem State.tellAgent_reply (s : State) (x : Reply) : (s.tellAgent x).reply = s.reply := rfl
@[simp] theorem State.tellAgent_slotOpen (s : State) (x : Reply) : (s.tellAgent x).slotOpen = s.slotOpen := rfl
@[simp] theorem State.tellAgent_cpuIn (s : State) (x : Reply) : (s.tellAgent x).cpuIn = s.cpuIn := rfl
@[simp] theorem State.tellAgent_hostIn (s : State) (x : Reply) : (s.tellAgent x).hostIn = s.hostIn := rfl

end Sys2Proof.Machine
end

