-- ==== Sys2Proof/Laws/Flags.lean ====
section
/-! SUPPORT. The operations over the flags: everything an update of the interrupt line, a source's level, the
dividers or the margins can do, said once each. -/

namespace Sys2Proof.Machine

/-! ## The interrupt unit -/

/-- The events of IrqUpdate: none where the line stays as it is. -/
def irqEvents (i : Intr) : List Event := if i.wanted = i.irq then [] else [irqEvent i.wanted]

/-- Everything IrqUpdate can do. -/
theorem irqUpdate_eq (s : State) :
    irqUpdate s =
      { s with intr := { s.intr with irq := s.intr.wanted }, trace := s.trace ++ irqEvents s.intr } := by
  unfold irqUpdate irqEvents
  by_cases h : s.intr.wanted = s.intr.irq
  · simp [h]
  · simp [h, State.setIntr, State.emit]

/-- What the enabled latches ask for does not depend on the line itself. -/
@[simp] theorem Intr.wanted_irq (i : Intr) (b : Bool) : Intr.wanted { i with irq := b } = i.wanted := rfl

/-- Everything IntSetLevel can do. -/
theorem intSetLevel_eq (k : Fin 4) (v : Bool) (s : State) :
    intSetLevel k v s =
      { s with
        intr := { s.intr.drive k v with irq := (s.intr.drive k v).wanted }
        trace := s.trace ++ irqEvents (s.intr.drive k v) } := by
  rw [intSetLevel, irqUpdate_eq]; rfl

/-- IntSetLevel, like IrqUpdate, changes INT and the trace alone. -/
theorem intSetLevel_frame (k : Fin 4) (v : Bool) (s : State) :
    intSetLevel k v s = { s with intr := (intSetLevel k v s).intr, trace := (intSetLevel k v s).trace } := by
  rw [intSetLevel_eq]

/-- After IntSetLevel the line is the OR of the enabled latches. -/
theorem intSetLevel_line (k : Fin 4) (v : Bool) (s : State) :
    (intSetLevel k v s).intr.irq = (intSetLevel k v s).intr.wanted := by
  rw [intSetLevel_eq]; rfl

/-- Everything the timer's part of a tick can do. -/
theorem timerTick_frame (s : State) :
    timerTick s = { s with intr := (timerTick s).intr, trace := (timerTick s).trace } := by
  unfold timerTick
  by_cases h : s.params.timerHalf ≤ (s.intr.timerCnt + 1).toNat
  · simp only [h, if_true]; rw [intSetLevel_eq]; rfl
  · simp only [h, if_false]; rfl

/-- Everything the 1 Hz clock's part of a tick can do. -/
theorem onehzTick_frame (s : State) :
    onehzTick s = { s with intr := (onehzTick s).intr, trace := (onehzTick s).trace } := by
  unfold onehzTick
  by_cases h : s.clk.onehzHalf.toNat ≤ (s.intr.onehzCnt + 1).toNat
  · simp only [h, if_true]; rw [intSetLevel_eq]; rfl
  · simp only [h, if_false]; rfl

/-- IntDividerTick changes INT and the trace alone. -/
theorem intDividerTick_frame (s : State) :
    intDividerTick s = { s with intr := (intDividerTick s).intr, trace := (intDividerTick s).trace } := by
  have h : intDividerTick s = onehzTick (timerTick s) := rfl
  rw [h, onehzTick_frame, timerTick_frame]

/-! ## The display flags -/

/-- Everything VsyncCheck can do. -/
theorem vsyncCheck_eq (s : State) :
    vsyncCheck s =
      { s with
        vid := { s.vid with vsync := decide (s.vid.vm = 0) }
        trace := s.trace ++
          (if decide (s.vid.vm = 0) = s.vid.vsync then [] else [.vsync (decide (s.vid.vm = 0)) s.vid.slot]) } := by
  unfold vsyncCheck
  by_cases h : decide (s.vid.vm = 0) = s.vid.vsync
  · simp only [h, if_true, List.append_nil]
  · simp only [h, if_false]; rfl

/-- The events of the opening test: a vsync edge, at the slot where the display opens. -/
def openEvents (v : Vid) : List Event :=
  if v.slot.toNat = max v.lm.toNat 8 then
    (if decide (v.vm = 0) = v.vsync then [] else [.vsync (decide (v.vm = 0)) v.slot])
  else []

/-- Everything the opening test can do. -/
theorem marginOpen_eq (s : State) :
    marginOpen s =
      { s with
        vid := { s.vid with
          displayEn := if s.vid.slot.toNat = max s.vid.lm.toNat 8 then true else s.vid.displayEn
          vsync := if s.vid.slot.toNat = max s.vid.lm.toNat 8 then decide (s.vid.vm = 0) else s.vid.vsync }
        trace := s.trace ++ openEvents s.vid } := by
  unfold marginOpen openEvents
  by_cases h : s.vid.slot.toNat = max s.vid.lm.toNat 8
  · simp only [h, if_true, vsyncCheck_eq]; rfl
  · simp only [h, if_false, List.append_nil]

/-- Everything the closing test can do. -/
theorem marginClose_eq (s : State) :
    marginClose s =
      { s with vid := { s.vid with displayEn := if s.vid.slot = s.vid.rm then false else s.vid.displayEn } } := by
  unfold marginClose
  by_cases h : s.vid.slot = s.vid.rm
  · simp only [h, if_true]; rfl
  · simp only [h, if_false]

/-- Everything the margin rules can do: display_en, vsync and the trace are all they change. -/
theorem margins_eq (s : State) :
    margins s =
      { s with
        vid := { s.vid with
          displayEn :=
            if s.vid.slot = s.vid.rm then false
            else if s.vid.slot.toNat = max s.vid.lm.toNat 8 then true else s.vid.displayEn
          vsync := if s.vid.slot.toNat = max s.vid.lm.toNat 8 then decide (s.vid.vm = 0) else s.vid.vsync }
        trace := s.trace ++ openEvents s.vid } := by
  rw [margins, marginClose_eq, marginOpen_eq]; rfl

end Sys2Proof.Machine
end

