-- ==== Sys2Proof/Laws/Memory.lean ====
section
/-! SUPPORT. The memory operations: a read after a write, what a write leaves alone, and the canonical form, which
every memory operation keeps and the reset state has. -/

namespace Sys2Proof.Machine

/-- No address of the store is listed below its first. -/
theorem Memory.wf_head_lt {b : Nat} {w : Byte} {m : Memory} (h : Memory.wf ((b, w) :: m)) :
    ∀ c ∈ m, b < c.1 := (List.pairwise_cons.mp h.1).1

/-- The rest of a canonical store is canonical. -/
theorem Memory.wf_tail {c : Host.Cell} {m : Memory} (h : Memory.wf (c :: m)) : Memory.wf m :=
  ⟨(List.pairwise_cons.mp h.1).2, fun d hd => h.2 d (List.mem_cons_of_mem _ hd)⟩

/-- An address below every listed one reads as 0. -/
theorem Memory.read_of_below (m : Memory) (a : Half) (h : ∀ c ∈ m, a.toNat < c.1) : Memory.read m a = 0 := by
  induction m with
  | nil => rfl
  | cons c m ih =>
    obtain ⟨b, w⟩ := c
    have hb : a.toNat < b := h (b, w) List.mem_cons_self
    simp only [Memory.read]
    rw [if_neg (by omega)]
    exact ih fun d hd => h d (List.mem_cons_of_mem _ hd)

/-- A read of the address just written gives the value written. -/
theorem Memory.read_write_self (m : Memory) (a : Half) (v : Byte) (h : Memory.wf m) :
    Memory.read (Memory.write m a v) a = v := by
  induction m with
  | nil => by_cases hv : v = 0#8 <;> simp [Memory.write, Memory.read, hv]
  | cons c m ih =>
    obtain ⟨b, w⟩ := c
    have hlt := Memory.wf_head_lt h
    simp only [Memory.write]
    by_cases h1 : a.toNat < b
    · by_cases hv : v = 0
      · rw [if_pos h1, if_pos hv, hv]
        refine Memory.read_of_below _ a fun d hd => ?_
        rcases List.mem_cons.mp hd with rfl | hd
        · exact h1
        · exact lt_trans h1 (hlt d hd)
      · rw [if_pos h1, if_neg hv]; simp [Memory.read]
    · rw [if_neg h1]
      by_cases h2 : b = a.toNat
      · by_cases hv : v = 0
        · rw [if_pos h2, if_pos hv, hv]
          exact Memory.read_of_below _ a fun d hd => h2 ▸ hlt d hd
        · rw [if_pos h2, if_neg hv]; simp [Memory.read, h2]
      · rw [if_neg h2]
        simp only [Memory.read]
        rw [if_neg h2]
        exact ih (Memory.wf_tail h)

/-- A write leaves every other address as it was. -/
theorem Memory.read_write_of_ne (m : Memory) (a b : Half) (v : Byte) (hne : a ≠ b) :
    Memory.read (Memory.write m a v) b = Memory.read m b := by
  have hn : a.toNat ≠ b.toNat := fun e => hne (BitVec.eq_of_toNat_eq e)
  induction m with
  | nil => by_cases hv : v = 0#8 <;> simp [Memory.write, Memory.read, hv, hn]
  | cons c m ih =>
    obtain ⟨d, w⟩ := c
    simp only [Memory.write]
    by_cases h1 : a.toNat < d
    · by_cases hv : v = 0#8 <;> simp [h1, hv, Memory.read, hn]
    · rw [if_neg h1]
      by_cases h2 : d = a.toNat
      · have hd : d ≠ b.toNat := h2 ▸ hn
        by_cases hv : v = 0#8 <;> simp [h2, hv, Memory.read, hn]
      · rw [if_neg h2]
        simp only [Memory.read]
        rw [ih]

/-- Every address a write leaves listed was listed before, or is the one written. -/
theorem Memory.mem_write {m : Memory} {a : Half} {v : Byte} {c : Host.Cell} (h : c ∈ Memory.write m a v) :
    c ∈ m ∨ (c = (a.toNat, v) ∧ v ≠ 0) := by
  induction m with
  | nil =>
    by_cases hv : v = 0
    · rw [Memory.write, if_pos hv] at h; exact absurd h List.not_mem_nil
    · rw [Memory.write, if_neg hv] at h; exact .inr ⟨List.mem_singleton.mp h, hv⟩
  | cons d m ih =>
    obtain ⟨b, w⟩ := d
    simp only [Memory.write] at h
    by_cases h1 : a.toNat < b
    · by_cases hv : v = 0
      · rw [if_pos h1, if_pos hv] at h; exact .inl h
      · rw [if_pos h1, if_neg hv] at h
        rcases List.mem_cons.mp h with h | h
        · exact .inr ⟨h, hv⟩
        · exact .inl h
    · rw [if_neg h1] at h
      by_cases h2 : b = a.toNat
      · by_cases hv : v = 0
        · rw [if_pos h2, if_pos hv] at h; exact .inl (List.mem_cons_of_mem _ h)
        · rw [if_pos h2, if_neg hv] at h
          rcases List.mem_cons.mp h with h | h
          · exact .inr ⟨by rw [h, h2], hv⟩
          · exact .inl (List.mem_cons_of_mem _ h)
      · rw [if_neg h2] at h
        rcases List.mem_cons.mp h with h | h
        · exact .inl (h ▸ List.mem_cons_self)
        · rcases ih h with h | h
          · exact .inl (List.mem_cons_of_mem _ h)
          · exact .inr h

/-- A write keeps the canonical form. -/
theorem Memory.write_wf (m : Memory) (a : Half) (v : Byte) (h : Memory.wf m) : Memory.wf (Memory.write m a v) := by
  constructor
  · induction m with
    | nil => by_cases hv : v = 0#8 <;> simp [Memory.write, hv]
    | cons c m ih =>
      obtain ⟨b, w⟩ := c
      have hlt := Memory.wf_head_lt h
      simp only [Memory.write]
      by_cases h1 : a.toNat < b
      · by_cases hv : v = 0
        · rw [if_pos h1, if_pos hv]; exact h.1
        · rw [if_pos h1, if_neg hv]
          refine List.pairwise_cons.mpr ⟨fun d hd => ?_, h.1⟩
          rcases List.mem_cons.mp hd with rfl | hd
          · exact h1
          · exact lt_trans h1 (hlt d hd)
      · rw [if_neg h1]
        by_cases h2 : b = a.toNat
        · by_cases hv : v = 0
          · rw [if_pos h2, if_pos hv]; exact (Memory.wf_tail h).1
          · rw [if_pos h2, if_neg hv]
            exact List.pairwise_cons.mpr ⟨hlt, (Memory.wf_tail h).1⟩
        · rw [if_neg h2]
          refine List.pairwise_cons.mpr ⟨fun d hd => ?_, ih (Memory.wf_tail h)⟩
          rcases Memory.mem_write hd with hd | ⟨rfl, _⟩
          · exact hlt d hd
          · show b < a.toNat
            omega
  · intro c hc
    rcases Memory.mem_write hc with hc | ⟨rfl, hv⟩
    · exact h.2 c hc
    · exact ⟨hv, a.isLt⟩

/-- The reset state's stores are canonical. -/
theorem reset_memory_wf : Memory.wf State.reset.mem ∧ Memory.wf State.reset.pageMap := by decide

/-- What a collaborator's change can do: one byte of one of its two stores. -/
theorem collaborate_spec (c : Collab) (s : State) :
    (∃ a v, c = .poke a v ∧ collaborate c s = { s with mem := Memory.write s.mem a v }) ∨
    (∃ p g, c = .mapPage p g ∧ collaborate c s = { s with pageMap := Memory.write s.pageMap p g }) := by
  cases c with
  | poke a v => exact .inl ⟨a, v, rfl, rfl⟩
  | mapPage p g => exact .inr ⟨p, g, rfl, rfl⟩

end Sys2Proof.Machine
end

