-- ==== Sys2Proof/Laws/Ops.lean ====
section
/-! SUPPORT. The outcomes of a transaction: what each operation of Machine/Ops.lean answers, said once. -/

namespace Sys2Proof.Machine

/-- A refused transaction changes `refused` and the issuer's reply, and nothing else. -/
theorem refuse_eq (r : RefuseReason) (s : State) :
    refuse r s = { s with clk := { s.clk with refused := true }, reply := .refused r } := rfl

/-- A refused event inside a slot step changes `refused` alone. -/
theorem markRefused_eq (s : State) : markRefused s = { s with clk := { s.clk with refused := true } } := rfl

/-- A FatalAssertion changes `faulted` and the issuer's reply, and nothing else. -/
theorem raiseFatal_eq (a : Accumulator) (s : State) :
    raiseFatal a s = { s with clk := { s.clk with faulted := true }, reply := .fatal a } := rfl

/-- A ConfigurationError changes the issuer's reply alone. -/
theorem raiseConfig_eq (c : ConfigError) (s : State) : raiseConfig c s = { s with reply := .configError c } := rfl

theorem complete_of_running {s : State} (h : s.clk.faulted = false) : complete s = s.setReply .completed := by
  simp [complete, h]

theorem complete_of_faulted {s : State} (h : s.clk.faulted = true) : complete s = s := by
  simp [complete, h]

/-- Completion touches the reply alone. -/
theorem complete_spec (s : State) : complete s = s ∨ complete s = s.setReply .completed := by
  cases h : s.clk.faulted
  · exact .inr (complete_of_running h)
  · exact .inl (complete_of_faulted h)

theorem accept_of_running {s : State} (f : State → State) (h : s.clk.faulted = false) :
    accept f s = .next (f s) := by simp [accept, h]

theorem accept_of_faulted {s : State} (f : State → State) (h : s.clk.faulted = true) :
    accept f s = .next (refuse .faulted s) := by simp [accept, h]

/-- Everything an accepted transaction can do. -/
theorem accept_spec {f : State → State} {s t : State} (h : accept f s = .next t) :
    (s.clk.faulted = true ∧ t = refuse .faulted s) ∨ (s.clk.faulted = false ∧ t = f s) := by
  cases hf : s.clk.faulted
  · rw [accept_of_running f hf] at h; exact .inr ⟨rfl, by injection h with h; exact h.symm⟩
  · rw [accept_of_faulted f hf] at h; exact .inl ⟨rfl, by injection h with h; exact h.symm⟩

theorem acceptConfigured_of_running {s : State} (f : State → State) (h : s.clk.faulted = false)
    (hc : s.clk.configured = true) : acceptConfigured f s = .next (f s) := by
  simp [acceptConfigured, accept, h, hc]

theorem acceptConfigured_of_unconfigured {s : State} (f : State → State) (h : s.clk.faulted = false)
    (hc : s.clk.configured = false) : acceptConfigured f s = .next (refuse .notConfigured s) := by
  simp [acceptConfigured, accept, h, hc]

theorem acceptConfigured_of_faulted {s : State} (f : State → State) (h : s.clk.faulted = true) :
    acceptConfigured f s = .next (refuse .faulted s) := by simp [acceptConfigured, accept, h]

/-- Everything a transaction that needs a configured block can do. -/
theorem acceptConfigured_spec {f : State → State} {s t : State} (h : acceptConfigured f s = .next t) :
    (s.clk.faulted = true ∧ t = refuse .faulted s) ∨
    (s.clk.faulted = false ∧ s.clk.configured = false ∧ t = refuse .notConfigured s) ∨
    (s.clk.faulted = false ∧ s.clk.configured = true ∧ t = f s) := by
  rcases accept_spec h with h | ⟨hf, ht⟩
  · exact .inl h
  · cases hc : s.clk.configured
    · exact .inr (.inl ⟨hf, rfl, by simpa [hc] using ht⟩)
    · exact .inr (.inr ⟨hf, rfl, by simpa [hc] using ht⟩)

theorem perform_of_running {s : State} (f : State → State) (h : s.clk.faulted = false) :
    perform f s = .next (complete (f s)) := accept_of_running _ h

theorem perform_of_faulted {s : State} (f : State → State) (h : s.clk.faulted = true) :
    perform f s = .next (refuse .faulted s) := accept_of_faulted _ h

theorem answerByte_of_running {s : State} (f : State → Byte) (h : s.clk.faulted = false) :
    answerByte f s = .next (s.setReply (.byte (f s))) := accept_of_running _ h

theorem answerByte_of_faulted {s : State} (f : State → Byte) (h : s.clk.faulted = true) :
    answerByte f s = .next (refuse .faulted s) := accept_of_faulted _ h

/-! ## The accumulators -/

theorem fitsS64_iff (x : Int) : fitsS64 x = true ↔ -9223372036854775808 ≤ x ∧ x < 9223372036854775808 := by
  simp [fitsS64]

/-- Everything a replacement of acc_cpu can do. -/
theorem updateCpu_spec (x : Int) (s : State) :
    (fitsS64 x = true ∧ updateCpu x s = s.setClk { s.clk with accCpu := x }) ∨
    (fitsS64 x = false ∧ updateCpu x s = raiseFatal .cpu s) := by
  cases h : fitsS64 x <;> simp [updateCpu, h]

/-- Everything a replacement of acc_snd can do. -/
theorem updateSnd_spec (x : Int) (s : State) :
    (fitsS64 x = true ∧ updateSnd x s = s.setClk { s.clk with accSnd := x }) ∨
    (fitsS64 x = false ∧ updateSnd x s = raiseFatal .snd s) := by
  cases h : fitsS64 x <;> simp [updateSnd, h]

theorem unlessFatal_of_running {s : State} (f : State → State) (h : s.clk.faulted = false) :
    unlessFatal s f = f s := by simp [unlessFatal, h]

theorem unlessFatal_of_faulted {s : State} (f : State → State) (h : s.clk.faulted = true) :
    unlessFatal s f = s := by simp [unlessFatal, h]

end Sys2Proof.Machine
end

