-- ==== Sys2Proof/Laws/PerInstr.lean ====
section
/-! SUPPORT. A statement about every instruction, made constructor by constructor: the encoder gives each the operand
words and bytes that its header fixes (30_encoding.md R304). -/

namespace Sys2Proof.Laws

/-- A packet has as many operand words and bytes as its header fixes; a render key has none (R304). -/
def sized (x : Source) : Prop :=
  match x with
  | .packet p =>
    p.words.length = wordCount (p.header.extractLsb' 8 8) ∧
    p.bytes.length = byteCount (p.header.extractLsb' 8 8) p.words
  | .key _ => True

/-- The encoding of a well-formed instruction has the length its header fixes. -/
def EncodedLength.Statement (i : Instr) : Prop := wellFormed i = true → sized (encode i)

/-- The length of a packet, from its header's high byte. -/
theorem sized_packetOf (hi lo : Byte) (ws : List Word32) (bs : List Byte) :
    sized (packetOf hi lo ws bs) ↔ ws.length = wordCount hi ∧ bs.length = byteCount hi ws := by
  simp only [sized, packetOf, header_high]

theorem sized_bare (hi lo : Byte) (h : wordCount hi = 0) : sized (packetOf hi lo [] []) :=
  (sized_packetOf hi lo [] []).mpr ⟨h.symm, by simp [byteCount]⟩

theorem sized_load (lo : Byte) (d : List Byte) (h : loadFits d = true) :
    sized (packetOf 0x8A lo [BitVec.ofNat 32 d.length] d) := by
  have hd : d.length < 4294967296 := by simpa [loadFits] using h
  refine (sized_packetOf _ lo _ d).mpr ⟨rfl, ?_⟩
  have e : byteCount 0x8A [BitVec.ofNat 32 d.length] = d.length % 4294967296 := by
    simp [byteCount, BitVec.toNat_ofNat]
  rw [e]; omega

theorem EncodedLength.pwSndR0 (data : Byte) : EncodedLength.Statement (.pwSndR0 data) := fun _ => sized_bare _ _ rfl
theorem EncodedLength.prSndR0 : EncodedLength.Statement (.prSndR0) := fun _ => sized_bare _ _ rfl
theorem EncodedLength.pwSndR1 (data : Byte) : EncodedLength.Statement (.pwSndR1 data) := fun _ => sized_bare _ _ rfl
theorem EncodedLength.prSndR1 : EncodedLength.Statement (.prSndR1) := fun _ => sized_bare _ _ rfl
theorem EncodedLength.pwSndR2 (data : Byte) : EncodedLength.Statement (.pwSndR2 data) := fun _ => sized_bare _ _ rfl
theorem EncodedLength.prSndR2 : EncodedLength.Statement (.prSndR2) := fun _ => sized_bare _ _ rfl
theorem EncodedLength.pwSndR3 (data : Byte) : EncodedLength.Statement (.pwSndR3 data) := fun _ => sized_bare _ _ rfl
theorem EncodedLength.prSndR3 : EncodedLength.Statement (.prSndR3) := fun _ => sized_bare _ _ rfl
theorem EncodedLength.pwSndR4 (data : Byte) : EncodedLength.Statement (.pwSndR4 data) := fun _ => sized_bare _ _ rfl
theorem EncodedLength.prSndR4 : EncodedLength.Statement (.prSndR4) := fun _ => sized_bare _ _ rfl
theorem EncodedLength.pwSndR5 (data : Byte) : EncodedLength.Statement (.pwSndR5 data) := fun _ => sized_bare _ _ rfl
theorem EncodedLength.prSndR5 : EncodedLength.Statement (.prSndR5) := fun _ => sized_bare _ _ rfl
theorem EncodedLength.pwSndR6 (data : Byte) : EncodedLength.Statement (.pwSndR6 data) := fun _ => sized_bare _ _ rfl
theorem EncodedLength.prSndR6 : EncodedLength.Statement (.prSndR6) := fun _ => sized_bare _ _ rfl
theorem EncodedLength.pwSndR7 (data : Byte) : EncodedLength.Statement (.pwSndR7 data) := fun _ => sized_bare _ _ rfl
theorem EncodedLength.prSndR7 : EncodedLength.Statement (.prSndR7) := fun _ => sized_bare _ _ rfl
theorem EncodedLength.pwSndR8 (data : Byte) : EncodedLength.Statement (.pwSndR8 data) := fun _ => sized_bare _ _ rfl
theorem EncodedLength.prSndR8 : EncodedLength.Statement (.prSndR8) := fun _ => sized_bare _ _ rfl
theorem EncodedLength.pwSndR9 (data : Byte) : EncodedLength.Statement (.pwSndR9 data) := fun _ => sized_bare _ _ rfl
theorem EncodedLength.prSndR9 : EncodedLength.Statement (.prSndR9) := fun _ => sized_bare _ _ rfl
theorem EncodedLength.pwSndR10 (data : Byte) : EncodedLength.Statement (.pwSndR10 data) := fun _ => sized_bare _ _ rfl
theorem EncodedLength.prSndR10 : EncodedLength.Statement (.prSndR10) := fun _ => sized_bare _ _ rfl
theorem EncodedLength.pwSndR11 (data : Byte) : EncodedLength.Statement (.pwSndR11 data) := fun _ => sized_bare _ _ rfl
theorem EncodedLength.prSndR11 : EncodedLength.Statement (.prSndR11) := fun _ => sized_bare _ _ rfl
theorem EncodedLength.pwSndR12 (data : Byte) : EncodedLength.Statement (.pwSndR12 data) := fun _ => sized_bare _ _ rfl
theorem EncodedLength.prSndR12 : EncodedLength.Statement (.prSndR12) := fun _ => sized_bare _ _ rfl
theorem EncodedLength.pwSndR13 (data : Byte) : EncodedLength.Statement (.pwSndR13 data) := fun _ => sized_bare _ _ rfl
theorem EncodedLength.prSndR13 : EncodedLength.Statement (.prSndR13) := fun _ => sized_bare _ _ rfl
theorem EncodedLength.pwSndR14 (data : Byte) : EncodedLength.Statement (.pwSndR14 data) := fun _ => sized_bare _ _ rfl
theorem EncodedLength.prSndR14 : EncodedLength.Statement (.prSndR14) := fun _ => sized_bare _ _ rfl
theorem EncodedLength.pwSndR15 (data : Byte) : EncodedLength.Statement (.pwSndR15 data) := fun _ => sized_bare _ _ rfl
theorem EncodedLength.prSndR15 : EncodedLength.Statement (.prSndR15) := fun _ => sized_bare _ _ rfl
theorem EncodedLength.pwIntCtrl (data : Byte) : EncodedLength.Statement (.pwIntCtrl data) :=
    fun _ => sized_bare _ _ rfl
theorem EncodedLength.prIntStatus : EncodedLength.Statement (.prIntStatus) := fun _ => sized_bare _ _ rfl
theorem EncodedLength.pwReserved11 (data : Byte) : EncodedLength.Statement (.pwReserved11 data) :=
    fun _ => sized_bare _ _ rfl
theorem EncodedLength.prReserved11 : EncodedLength.Statement (.prReserved11) := fun _ => sized_bare _ _ rfl
theorem EncodedLength.pwReserved12 (data : Byte) : EncodedLength.Statement (.pwReserved12 data) :=
    fun _ => sized_bare _ _ rfl
theorem EncodedLength.prReserved12 : EncodedLength.Statement (.prReserved12) := fun _ => sized_bare _ _ rfl
theorem EncodedLength.pwReserved13 (data : Byte) : EncodedLength.Statement (.pwReserved13 data) :=
    fun _ => sized_bare _ _ rfl
theorem EncodedLength.prReserved13 : EncodedLength.Statement (.prReserved13) := fun _ => sized_bare _ _ rfl
theorem EncodedLength.pwReserved14 (data : Byte) : EncodedLength.Statement (.pwReserved14 data) :=
    fun _ => sized_bare _ _ rfl
theorem EncodedLength.prReserved14 : EncodedLength.Statement (.prReserved14) := fun _ => sized_bare _ _ rfl
theorem EncodedLength.pwReserved15 (data : Byte) : EncodedLength.Statement (.pwReserved15 data) :=
    fun _ => sized_bare _ _ rfl
theorem EncodedLength.prReserved15 : EncodedLength.Statement (.prReserved15) := fun _ => sized_bare _ _ rfl
theorem EncodedLength.pwReserved16 (data : Byte) : EncodedLength.Statement (.pwReserved16 data) :=
    fun _ => sized_bare _ _ rfl
theorem EncodedLength.prReserved16 : EncodedLength.Statement (.prReserved16) := fun _ => sized_bare _ _ rfl
theorem EncodedLength.pwReserved17 (data : Byte) : EncodedLength.Statement (.pwReserved17 data) :=
    fun _ => sized_bare _ _ rfl
theorem EncodedLength.prReserved17 : EncodedLength.Statement (.prReserved17) := fun _ => sized_bare _ _ rfl
theorem EncodedLength.pwFixbias (data : Byte) : EncodedLength.Statement (.pwFixbias data) :=
    fun _ => sized_bare _ _ rfl
theorem EncodedLength.prFixbias : EncodedLength.Statement (.prFixbias) := fun _ => sized_bare _ _ rfl
theorem EncodedLength.pwBorder (data : Byte) : EncodedLength.Statement (.pwBorder data) := fun _ => sized_bare _ _ rfl
theorem EncodedLength.prBorder : EncodedLength.Statement (.prBorder) := fun _ => sized_bare _ _ rfl
theorem EncodedLength.pwLptLo (data : Byte) : EncodedLength.Statement (.pwLptLo data) := fun _ => sized_bare _ _ rfl
theorem EncodedLength.prLptLo : EncodedLength.Statement (.prLptLo) := fun _ => sized_bare _ _ rfl
theorem EncodedLength.pwLptHi (data : Byte) : EncodedLength.Statement (.pwLptHi data) := fun _ => sized_bare _ _ rfl
theorem EncodedLength.prLptHi : EncodedLength.Statement (.prLptHi) := fun _ => sized_bare _ _ rfl
theorem EncodedLength.pwReserved1C (data : Byte) : EncodedLength.Statement (.pwReserved1C data) :=
    fun _ => sized_bare _ _ rfl
theorem EncodedLength.prReserved1C : EncodedLength.Statement (.prReserved1C) := fun _ => sized_bare _ _ rfl
theorem EncodedLength.pwReserved1D (data : Byte) : EncodedLength.Statement (.pwReserved1D data) :=
    fun _ => sized_bare _ _ rfl
theorem EncodedLength.prReserved1D : EncodedLength.Statement (.prReserved1D) := fun _ => sized_bare _ _ rfl
theorem EncodedLength.pwReserved1E (data : Byte) : EncodedLength.Statement (.pwReserved1E data) :=
    fun _ => sized_bare _ _ rfl
theorem EncodedLength.prReserved1E : EncodedLength.Statement (.prReserved1E) := fun _ => sized_bare _ _ rfl
theorem EncodedLength.pwReserved1F (data : Byte) : EncodedLength.Statement (.pwReserved1F data) :=
    fun _ => sized_bare _ _ rfl
theorem EncodedLength.prReserved1F : EncodedLength.Statement (.prReserved1F) := fun _ => sized_bare _ _ rfl
theorem EncodedLength.slotStep : EncodedLength.Statement (.slotStep) := fun _ => sized_bare _ _ rfl
theorem EncodedLength.soundTick : EncodedLength.Statement (.soundTick) := fun _ => sized_bare _ _ rfl
theorem EncodedLength.videoSlot : EncodedLength.Statement (.videoSlot) := fun _ => sized_bare _ _ rfl
theorem EncodedLength.cpuCycles (n : Byte) : EncodedLength.Statement (.cpuCycles n) := fun _ => sized_bare _ _ rfl
theorem EncodedLength.cpuMemFetch (a : Half) : EncodedLength.Statement (.cpuMemFetch a) :=
    fun _ => (sized_packetOf _ _ _ _).mpr ⟨rfl, rfl⟩
theorem EncodedLength.cpuMemRead (a : Half) : EncodedLength.Statement (.cpuMemRead a) :=
    fun _ => (sized_packetOf _ _ _ _).mpr ⟨rfl, rfl⟩
theorem EncodedLength.cpuMemWrite (a : Half) : EncodedLength.Statement (.cpuMemWrite a) :=
    fun _ => (sized_packetOf _ _ _ _).mpr ⟨rfl, rfl⟩
theorem EncodedLength.cpuIoRead (port : Byte) : EncodedLength.Statement (.cpuIoRead port) :=
    fun _ => (sized_packetOf _ _ _ _).mpr ⟨rfl, rfl⟩
theorem EncodedLength.cpuIoWrite (port data : Byte) : EncodedLength.Statement (.cpuIoWrite port data) :=
    fun _ => (sized_packetOf _ _ _ _).mpr ⟨rfl, rfl⟩
theorem EncodedLength.cpuEnd : EncodedLength.Statement (.cpuEnd) := fun _ => sized_bare _ _ rfl
theorem EncodedLength.ext2 (level : Bool) : EncodedLength.Statement (.ext2 level) := fun _ => sized_bare _ _ rfl
theorem EncodedLength.configure (memMode : Byte) (fCpu fSlot fSnd : Word32) (nwait : Byte) : EncodedLength.Statement (.configure memMode fCpu fSlot fSnd nwait) :=
    fun _ => (sized_packetOf _ _ _ _).mpr ⟨rfl, rfl⟩
theorem EncodedLength.snapshotSaveVideo : EncodedLength.Statement (.snapshotSaveVideo) := fun _ => sized_bare _ _ rfl
theorem EncodedLength.snapshotSaveSound : EncodedLength.Statement (.snapshotSaveSound) := fun _ => sized_bare _ _ rfl
theorem EncodedLength.snapshotSaveInt : EncodedLength.Statement (.snapshotSaveInt) := fun _ => sized_bare _ _ rfl
theorem EncodedLength.snapshotLoadVideo (d : List Byte) : EncodedLength.Statement (.snapshotLoadVideo d) :=
    fun h => sized_load _ d h
theorem EncodedLength.snapshotLoadSound (d : List Byte) : EncodedLength.Statement (.snapshotLoadSound d) :=
    fun h => sized_load _ d h
theorem EncodedLength.snapshotLoadInt (d : List Byte) : EncodedLength.Statement (.snapshotLoadInt d) :=
    fun h => sized_load _ d h
theorem EncodedLength.reset : EncodedLength.Statement (.reset) := fun _ => sized_bare _ _ rfl
theorem EncodedLength.waitQueryFetch (a : Half) : EncodedLength.Statement (.waitQueryFetch a) :=
    fun _ => (sized_packetOf _ _ _ _).mpr ⟨rfl, rfl⟩
theorem EncodedLength.waitQueryRead (a : Half) : EncodedLength.Statement (.waitQueryRead a) :=
    fun _ => (sized_packetOf _ _ _ _).mpr ⟨rfl, rfl⟩
theorem EncodedLength.waitQueryWrite (a : Half) : EncodedLength.Statement (.waitQueryWrite a) :=
    fun _ => (sized_packetOf _ _ _ _).mpr ⟨rfl, rfl⟩
theorem EncodedLength.waitQueryIo (port : Byte) : EncodedLength.Statement (.waitQueryIo port) :=
    fun _ => (sized_packetOf _ _ _ _).mpr ⟨rfl, rfl⟩
theorem EncodedLength.border : EncodedLength.Statement (.border) := fun _ => trivial
theorem EncodedLength.sync : EncodedLength.Statement (.sync) := fun _ => trivial
theorem EncodedLength.invalid : EncodedLength.Statement (.invalid) := fun _ => trivial
theorem EncodedLength.attrib : EncodedLength.Statement (.attrib) := fun _ => trivial
theorem EncodedLength.pixel_2c : EncodedLength.Statement (.pixel_2c) := fun _ => trivial
theorem EncodedLength.pixel_2c_msb : EncodedLength.Statement (.pixel_2c_msb) := fun _ => trivial
theorem EncodedLength.pixel_2c_lsb : EncodedLength.Statement (.pixel_2c_lsb) := fun _ => trivial
theorem EncodedLength.pixel_2c_lsb_msb : EncodedLength.Statement (.pixel_2c_lsb_msb) := fun _ => trivial
theorem EncodedLength.pixel_4c : EncodedLength.Statement (.pixel_4c) := fun _ => trivial
theorem EncodedLength.pixel_4c_lsb : EncodedLength.Statement (.pixel_4c_lsb) := fun _ => trivial
theorem EncodedLength.pixel_16c : EncodedLength.Statement (.pixel_16c) := fun _ => trivial
theorem EncodedLength.pixel_256c : EncodedLength.Statement (.pixel_256c) := fun _ => trivial
theorem EncodedLength.lpixel_2c : EncodedLength.Statement (.lpixel_2c) := fun _ => trivial
theorem EncodedLength.lpixel_2c_msb : EncodedLength.Statement (.lpixel_2c_msb) := fun _ => trivial
theorem EncodedLength.lpixel_2c_lsb : EncodedLength.Statement (.lpixel_2c_lsb) := fun _ => trivial
theorem EncodedLength.lpixel_2c_lsb_msb : EncodedLength.Statement (.lpixel_2c_lsb_msb) := fun _ => trivial
theorem EncodedLength.lpixel_4c : EncodedLength.Statement (.lpixel_4c) := fun _ => trivial
theorem EncodedLength.lpixel_4c_lsb : EncodedLength.Statement (.lpixel_4c_lsb) := fun _ => trivial
theorem EncodedLength.lpixel_16c : EncodedLength.Statement (.lpixel_16c) := fun _ => trivial
theorem EncodedLength.lpixel_256c : EncodedLength.Statement (.lpixel_256c) := fun _ => trivial
theorem EncodedLength.ch256_2c : EncodedLength.Statement (.ch256_2c) := fun _ => trivial
theorem EncodedLength.ch256_2c_a0 : EncodedLength.Statement (.ch256_2c_a0) := fun _ => trivial
theorem EncodedLength.ch256_2c_a1 : EncodedLength.Statement (.ch256_2c_a1) := fun _ => trivial
theorem EncodedLength.ch256_2c_a0_a1 : EncodedLength.Statement (.ch256_2c_a0_a1) := fun _ => trivial
theorem EncodedLength.ch256_4c : EncodedLength.Statement (.ch256_4c) := fun _ => trivial
theorem EncodedLength.ch256_4c_a1 : EncodedLength.Statement (.ch256_4c_a1) := fun _ => trivial
theorem EncodedLength.ch256_16c : EncodedLength.Statement (.ch256_16c) := fun _ => trivial
theorem EncodedLength.ch256_256c : EncodedLength.Statement (.ch256_256c) := fun _ => trivial
theorem EncodedLength.ch128_2c : EncodedLength.Statement (.ch128_2c) := fun _ => trivial
theorem EncodedLength.ch128_2c_a0 : EncodedLength.Statement (.ch128_2c_a0) := fun _ => trivial
theorem EncodedLength.ch128_2c_a1 : EncodedLength.Statement (.ch128_2c_a1) := fun _ => trivial
theorem EncodedLength.ch128_2c_a0_a1 : EncodedLength.Statement (.ch128_2c_a0_a1) := fun _ => trivial
theorem EncodedLength.ch128_4c : EncodedLength.Statement (.ch128_4c) := fun _ => trivial
theorem EncodedLength.ch128_4c_a1 : EncodedLength.Statement (.ch128_4c_a1) := fun _ => trivial
theorem EncodedLength.ch128_16c : EncodedLength.Statement (.ch128_16c) := fun _ => trivial
theorem EncodedLength.ch128_256c : EncodedLength.Statement (.ch128_256c) := fun _ => trivial
theorem EncodedLength.ch64_2c : EncodedLength.Statement (.ch64_2c) := fun _ => trivial
theorem EncodedLength.ch64_2c_a0 : EncodedLength.Statement (.ch64_2c_a0) := fun _ => trivial
theorem EncodedLength.ch64_2c_a1 : EncodedLength.Statement (.ch64_2c_a1) := fun _ => trivial
theorem EncodedLength.ch64_2c_a0_a1 : EncodedLength.Statement (.ch64_2c_a0_a1) := fun _ => trivial
theorem EncodedLength.ch64_4c : EncodedLength.Statement (.ch64_4c) := fun _ => trivial
theorem EncodedLength.ch64_4c_a1 : EncodedLength.Statement (.ch64_4c_a1) := fun _ => trivial
theorem EncodedLength.ch64_16c : EncodedLength.Statement (.ch64_16c) := fun _ => trivial
theorem EncodedLength.ch64_256c : EncodedLength.Statement (.ch64_256c) := fun _ => trivial

end Sys2Proof.Laws
end

