-- ==== Sys2Proof/Laws/Sound.lean ====
section
/-! SUPPORT. The sound synthesizer's shared operations: what a register write and a tick can do, said once each. -/

namespace Sys2Proof.Machine

/-! ## Register writes -/

theorem Snd.write_of_plain (n : Snd) (r : Fin 16) (v : Byte) (h4 : r ≠ 4) (h9 : r ≠ 9) :
    n.write r v = { n with reg := n.reg.set r v } := by
  unfold Snd.write
  split <;> simp_all [Snd.store]

theorem Snd.write_4 (n : Snd) (v : Byte) : n.write 4 v = (n.store 4 v).noiseWidthChange := rfl

theorem Snd.write_9 (n : Snd) (v : Byte) : n.write 9 v = (n.store 9 v).envRestart := rfl

/-- Whatever else a write does, the register reads back as written. -/
theorem Snd.write_reg (n : Snd) (r : Fin 16) (v : Byte) : (n.write r v).reg = n.reg.set r v := by
  by_cases h4 : r = 4
  · subst h4; rfl
  · by_cases h9 : r = 9
    · subst h9; rfl
    · rw [Snd.write_of_plain n r v h4 h9]

/-! ## The generators -/

theorem countdown_of_zero {w : Nat} {cnt : BitVec w} (period : BitVec w) (h : cnt = 0) :
    countdown cnt period = (period, true) := if_pos h

theorem countdown_of_pos {w : Nat} {cnt : BitVec w} (period : BitVec w) (h : cnt ≠ 0) :
    countdown cnt period = (cnt - 1, false) := if_neg h

/-- The generators keep the registers. -/
@[simp] theorem Snd.toneStep_reg (n : Snd) (c : Fin 3) : (n.toneStep c).reg = n.reg := rfl

@[simp] theorem Snd.noiseStep_reg (n : Snd) : n.noiseStep.reg = n.reg := by
  unfold Snd.noiseStep; split <;> rfl

@[simp] theorem Snd.envMove_reg (n : Snd) : n.envMove.reg = n.reg := by
  unfold Snd.envMove; simp only; split <;> rfl

@[simp] theorem Snd.envStep_reg (n : Snd) : n.envStep.reg = n.reg := by
  unfold Snd.envStep; split
  · rw [Snd.envMove_reg]
  · rfl

@[simp] theorem Snd.tick_reg (n : Snd) : n.tick.reg = n.reg := by simp [Snd.tick]

/-- The tone steps keep the noise generator and the envelope. -/
@[simp] theorem Snd.toneStep_lfsr (n : Snd) (c : Fin 3) : (n.toneStep c).lfsr = n.lfsr := rfl

/-- The envelope's step keeps the noise register. -/
@[simp] theorem Snd.envStep_lfsr (n : Snd) : n.envStep.lfsr = n.lfsr := by
  unfold Snd.envStep Snd.envMove
  simp only
  split
  · split <;> rfl
  · rfl

/-! ## The tick -/

/-- Everything a sound tick can do: SND, INT and the trace are all it changes, and its last event is the sample. -/
theorem soundTick_eq (s : State) :
    soundTick s =
      { s with
        snd := s.snd.tick
        intr := (intDividerTick (s.setSnd s.snd.tick)).intr
        trace := (intDividerTick (s.setSnd s.snd.tick)).trace ++ [sampleEvent s.params s.snd.tick] } := by
  rw [soundTick, emitSample, intDividerTick_frame]
  rfl

end Sys2Proof.Machine
end

