-- ==== Sys2Proof/Laws/Ports.lean ====
section
/-! SUPPORT. The port accesses: everything a write of an offset and an access of a CPU I/O event can change. -/

namespace Sys2Proof.Machine

/-- The state t is s but for VID, SND, INT and the trace. -/
def SameButUnits (s t : State) : Prop :=
  t = { s with vid := t.vid, snd := t.snd, intr := t.intr, trace := t.trace }

/-- The state t is s but for VID, SND, INT, the trace and what is delivered or sent to a collaborator's port. -/
def SameButAccess (s t : State) : Prop :=
  t = { s with
    vid := t.vid, snd := t.snd, intr := t.intr, trace := t.trace
    delivered := t.delivered, extIo := t.extIo, ioDraws := t.ioDraws }

/-- Everything a port write can change. -/
theorem portWrite_writes (off : BitVec 5) (v : Byte) (s : State) : SameButUnits s (portWrite off v s) := by
  unfold portWrite
  split
  · rfl
  · split <;> try rfl
    rw [intCtrl, irqUpdate_eq]; rfl

/-- Everything the access of a CPU I/O event can change. In particular it changes no field of CLK. -/
theorem performIo_writes (x : PendingIo) (s : State) : SameButAccess s (performIo x s) := by
  unfold performIo
  split
  · split
    · have h := portWrite_writes ‹_› x.data s
      unfold SameButUnits at h
      unfold SameButAccess
      rw [h]
    · rfl
  · split <;> rfl

@[simp] theorem performIo_clk (x : PendingIo) (s : State) : (performIo x s).clk = s.clk := by
  rw [performIo_writes x s]

end Sys2Proof.Machine
end

