-- ==== Sys2Proof/Laws/Renderers.lean ====
section
/-! SUPPORT. The renderers' shared operations: what a fetch and a renderer can write, said once each. -/

namespace Sys2Proof.Machine

/-- The slot is past the last one that fetches video memory (R612). -/
abbrev State.floating (s : State) : Prop := s.params.lastFetchSlot < s.vid.slot.toNat

/-! ## The fetches -/

theorem vread_of_floating {s : State} (a : Half) (h : s.floating) : vread a s = (s.vid.busLast, s) := by
  simp [vread, h]

theorem vread_of_fetching {s : State} (a : Half) (h : ¬s.floating) :
    vread a s = (Memory.read s.mem a, { s with vid := { s.vid with busLast := Memory.read s.mem a } }) := by
  simp [vread, h, State.setVid]

theorem vfetch1_of_floating {s : State} (h : s.floating) : vfetch1 s = (s.vid.busLast, s) := by
  simp [vfetch1, h]

theorem vfetch1_of_fetching {s : State} (h : ¬s.floating) :
    vfetch1 s =
      (Memory.read s.mem s.vid.ld1,
        { s with vid := { s.vid with busLast := Memory.read s.mem s.vid.ld1, ld1 := s.vid.ld1 + 1 } }) := by
  simp [vfetch1, h, State.setVid]

theorem vfetch2_of_floating {s : State} (h : s.floating) : vfetch2 s = (s.vid.busLast, s) := by
  simp [vfetch2, h]

theorem vfetch2_of_fetching {s : State} (h : ¬s.floating) :
    vfetch2 s =
      (Memory.read s.mem s.vid.ld2,
        { s with vid := { s.vid with busLast := Memory.read s.mem s.vid.ld2, ld2 := s.vid.ld2 + 1 } }) := by
  simp [vfetch2, h, State.setVid]

/-! ## What a renderer can write -/

/-- The state t is s but for ld1, ld2 and bus_last. -/
def SameButPointers (s t : State) : Prop :=
  t = { s with vid := { s.vid with ld1 := t.vid.ld1, ld2 := t.vid.ld2, busLast := t.vid.busLast } }

theorem SameButPointers.rfl (s : State) : SameButPointers s s := Eq.refl s

theorem SameButPointers.trans {s t u : State} (h : SameButPointers s t) (k : SameButPointers t u) :
    SameButPointers s u := by
  unfold SameButPointers at *
  rw [k, h]

theorem vread_writes (a : Half) (s : State) : SameButPointers s (vread a s).2 := by
  by_cases h : s.floating
  · rw [vread_of_floating a h]; exact .rfl s
  · rw [vread_of_fetching a h]; rfl

theorem vfetch1_writes (s : State) : SameButPointers s (vfetch1 s).2 := by
  by_cases h : s.floating
  · rw [vfetch1_of_floating h]; exact .rfl s
  · rw [vfetch1_of_fetching h]; rfl

theorem vfetch2_writes (s : State) : SameButPointers s (vfetch2 s).2 := by
  by_cases h : s.floating
  · rw [vfetch2_of_floating h]; exact .rfl s
  · rw [vfetch2_of_fetching h]; rfl

theorem pixelGroup_writes (cm : Nat) (lsb msb : Bool) (s : State) :
    SameButPointers s (pixelGroup cm lsb msb s).2 := (vfetch1_writes s).trans (vfetch1_writes _)

theorem lpixelGroup_writes (cm : Nat) (lsb msb : Bool) (s : State) :
    SameButPointers s (lpixelGroup cm lsb msb s).2 := vfetch1_writes s

theorem charGroup_writes (k cm : Nat) (a0 a1 : Bool) (s : State) :
    SameButPointers s (charGroup k cm a0 a1 s).2 := (vfetch1_writes s).trans (vread_writes _ _)

theorem renderAttrib_writes (s : State) : SameButPointers s (renderAttrib s).2 :=
  (vfetch1_writes s).trans (vfetch2_writes _)

/-- Everything a renderer can write: ld1, ld2 and bus_last (R601). -/
theorem runRenderer_writes (r : Renderer) (s : State) : SameButPointers s (runRenderer r s).2 :=
  match r with
  | .border => .rfl s
  | .sync => .rfl s
  | .invalid => .rfl s
  | .attrib => renderAttrib_writes s
  | .pixel_2c => pixelGroup_writes 0 false false s
  | .pixel_2c_msb => pixelGroup_writes 0 false true s
  | .pixel_2c_lsb => pixelGroup_writes 0 true false s
  | .pixel_2c_lsb_msb => pixelGroup_writes 0 true true s
  | .pixel_4c => pixelGroup_writes 1 false false s
  | .pixel_4c_lsb => pixelGroup_writes 1 true false s
  | .pixel_16c => pixelGroup_writes 2 false false s
  | .pixel_256c => pixelGroup_writes 3 false false s
  | .lpixel_2c => lpixelGroup_writes 0 false false s
  | .lpixel_2c_msb => lpixelGroup_writes 0 false true s
  | .lpixel_2c_lsb => lpixelGroup_writes 0 true false s
  | .lpixel_2c_lsb_msb => lpixelGroup_writes 0 true true s
  | .lpixel_4c => lpixelGroup_writes 1 false false s
  | .lpixel_4c_lsb => lpixelGroup_writes 1 true false s
  | .lpixel_16c => lpixelGroup_writes 2 false false s
  | .lpixel_256c => lpixelGroup_writes 3 false false s
  | .ch256_2c => charGroup_writes 8 0 false false s
  | .ch256_2c_a0 => charGroup_writes 8 0 true false s
  | .ch256_2c_a1 => charGroup_writes 8 0 false true s
  | .ch256_2c_a0_a1 => charGroup_writes 8 0 true true s
  | .ch256_4c => charGroup_writes 8 1 false false s
  | .ch256_4c_a1 => charGroup_writes 8 1 false true s
  | .ch256_16c => charGroup_writes 8 2 false false s
  | .ch256_256c => charGroup_writes 8 3 false false s
  | .ch128_2c => charGroup_writes 7 0 false false s
  | .ch128_2c_a0 => charGroup_writes 7 0 true false s
  | .ch128_2c_a1 => charGroup_writes 7 0 false true s
  | .ch128_2c_a0_a1 => charGroup_writes 7 0 true true s
  | .ch128_4c => charGroup_writes 7 1 false false s
  | .ch128_4c_a1 => charGroup_writes 7 1 false true s
  | .ch128_16c => charGroup_writes 7 2 false false s
  | .ch128_256c => charGroup_writes 7 3 false false s
  | .ch64_2c => charGroup_writes 6 0 false false s
  | .ch64_2c_a0 => charGroup_writes 6 0 true false s
  | .ch64_2c_a1 => charGroup_writes 6 0 false true s
  | .ch64_2c_a0_a1 => charGroup_writes 6 0 true true s
  | .ch64_4c => charGroup_writes 6 1 false false s
  | .ch64_4c_a1 => charGroup_writes 6 1 false true s
  | .ch64_16c => charGroup_writes 6 2 false false s
  | .ch64_256c => charGroup_writes 6 3 false false s

end Sys2Proof.Machine
end

