-- ==== Sys2Proof/Laws/Video.lean ====
section
/-! SUPPORT. The parts of a video slot: everything each of them can do, said once. -/

namespace Sys2Proof.Machine

/-- Slot 0 clears display_en, and no other slot changes anything here. -/
theorem lineStart_eq (s : State) :
    lineStart s = { s with vid := { s.vid with displayEn := if s.vid.slot = 0 then false else s.vid.displayEn } } := by
  unfold lineStart
  split <;> rfl

/-- One byte of the LPB fetch changes lpb_buf and bus_last alone. -/
theorem lpbByte_eq (i : Nat) (s : State) :
    lpbByte i s =
      { s with vid := { s.vid with
          lpbBuf := s.vid.lpbBuf.setIfInBounds i (Memory.read s.mem (s.vid.lptCur + BitVec.ofNat 16 i))
          busLast := Memory.read s.mem (s.vid.lptCur + BitVec.ofNat 16 i) } } := rfl

/-- The two bytes of a slot's LPB fetch, in order; the second is the one left on the bus. -/
theorem lpbFetch_eq (s : State) :
    lpbFetch s =
      { s with vid := { s.vid with
          lpbBuf := (s.vid.lpbBuf.setIfInBounds (2 * s.vid.slot.toNat)
              (Memory.read s.mem (s.vid.lptCur + BitVec.ofNat 16 (2 * s.vid.slot.toNat)))).setIfInBounds
                (2 * s.vid.slot.toNat + 1)
                (Memory.read s.mem (s.vid.lptCur + BitVec.ofNat 16 (2 * s.vid.slot.toNat + 1)))
          busLast := Memory.read s.mem (s.vid.lptCur + BitVec.ofNat 16 (2 * s.vid.slot.toNat + 1)) } } := rfl

/-- The slot's group goes to the end of the line; the renderer writes ld1, ld2 and bus_last. -/
theorem slotGroup_eq (s : State) :
    slotGroup s =
      { s with vid := { s.vid with
          ld1 := (render (renderKey s) s).2.vid.ld1
          ld2 := (render (renderKey s) s).2.vid.ld2
          busLast := (render (renderKey s) s).2.vid.busLast
          lineBuf := s.vid.lineBuf ++ (render (renderKey s) s).1 } } := by
  have h : SameButPointers s (render (renderKey s) s).2 := runRenderer_writes _ s
  rw [slotGroup, pushGroup, h]
  rfl

/-- Everything EndOfLine can do: VID, INT and the trace are all it changes. -/
theorem endOfLine_eq (s : State) :
    endOfLine s =
      { s with
        vid := Vid.nextLine { s.vid with lineBuf := [] }
        intr := { s.intr.drive 2 s.vid.vint with irq := (s.intr.drive 2 s.vid.vint).wanted }
        trace := s.trace ++ [.scanline s.vid.lineBuf s.vid.lineBuf.length] ++
          irqEvents (s.intr.drive 2 s.vid.vint) } := by
  rw [endOfLine, intSetLevel_eq]
  rfl

/-- The state t is s but for VID, INT and the trace. -/
def SameButDisplay (s t : State) : Prop := t = { s with vid := t.vid, intr := t.intr, trace := t.trace }

theorem SameButDisplay.trans {s t u : State} (h : SameButDisplay s t) (k : SameButDisplay t u) :
    SameButDisplay s u := by
  unfold SameButDisplay at *
  rw [k, h]

theorem slotFetch_writes (s : State) : SameButDisplay s (slotFetch s) := by
  unfold slotFetch
  split
  · split
    · rw [lpbFetch_eq]; rfl
    · rfl
  · rw [margins_eq]; rfl

theorem nextSlot_writes (s : State) : SameButDisplay s (nextSlot s) := by
  unfold nextSlot
  split
  · rw [endOfLine_eq]; rfl
  · rfl

theorem slotEnd_writes (s : State) : SameButDisplay s (slotEnd s) := by
  unfold slotEnd
  split
  · exact SameButDisplay.trans (t := lineSetup s) rfl (nextSlot_writes _)
  · exact nextSlot_writes s

/-- Everything a video slot can change: VID, INT and the trace. -/
theorem videoSlot_writes (s : State) : SameButDisplay s (videoSlot s) := by
  have h1 : SameButDisplay s (lineStart s) := by rw [lineStart_eq]; rfl
  have h3 : SameButDisplay (slotFetch (lineStart s)) (slotGroup (slotFetch (lineStart s))) := by
    rw [slotGroup_eq]; rfl
  exact ((h1.trans (slotFetch_writes _)).trans h3).trans (slotEnd_writes _)

end Sys2Proof.Machine
end

