-- ==== Sys2Proof/Laws/Scheduler.lean ====
section
/-! SUPPORT. The scheduler's shared operations: everything a charge, an event of the CPU agent, a turn of CpuRun and
a sound catch-up can do, said once each. -/

namespace Sys2Proof.Machine

/-! ## Charging and events -/

/-- Everything a charge can do: it is performed whole, or it is the FatalAssertion that stops the event. -/
theorem charge_spec (n : Byte) (s : State) (h : s.clk.faulted = false) :
    (fitsS64 (s.clk.accCpu - n.toNat * one) = true ∧
      charge n s = s.setClk { s.clk with
        accCpu := s.clk.accCpu - n.toNat * one, instrCost := s.clk.instrCost + n.setWidth 32 }) ∨
    (fitsS64 (s.clk.accCpu - n.toNat * one) = false ∧ charge n s = raiseFatal .cpu s) := by
  rcases updateCpu_spec (s.clk.accCpu - n.toNat * one) s with ⟨hf, hu⟩ | ⟨hf, hu⟩
  · refine .inl ⟨hf, ?_⟩
    rw [charge, hu]; exact unlessFatal_of_running _ h
  · refine .inr ⟨hf, ?_⟩
    rw [charge, hu]; exact unlessFatal_of_faulted _ rfl

/-- Everything a CPU I/O event can do: the charge is the FatalAssertion that stops it, or the access is held because it
lies beyond the slot, or it is performed. -/
theorem cpuIo_spec (x : PendingIo) (s : State) (h : s.clk.faulted = false) :
    (cpuIo x s = raiseFatal .cpu s) ∨
    (∃ t, charge (ioWait s) s = t ∧ t.clk.faulted = false ∧ t.clk.accCpu < 0 ∧
      cpuIo x s = t.setClk { t.clk with pendingIo := some x }) ∨
    (∃ t, charge (ioWait s) s = t ∧ t.clk.faulted = false ∧ 0 ≤ t.clk.accCpu ∧ cpuIo x s = performIo x t) := by
  have hw : waitCycles s .io (x.port.setWidth 16) = ioWait s := rfl
  rcases charge_spec (ioWait s) s h with ⟨_, hc⟩ | ⟨_, hc⟩
  · have hf : (charge (ioWait s) s).clk.faulted = false := by rw [hc]; exact h
    by_cases hn : (charge (ioWait s) s).clk.accCpu < 0
    · exact .inr (.inl ⟨_, rfl, hf, hn, by rw [cpuIo, hw, unlessFatal_of_running _ hf, if_pos hn]⟩)
    · exact .inr (.inr ⟨_, rfl, hf, by omega, by rw [cpuIo, hw, unlessFatal_of_running _ hf, if_neg hn]⟩)
  · refine .inl ?_
    rw [cpuIo, hw, hc]; exact unlessFatal_of_faulted _ rfl

/-- Everything the start of an instruction by an event can do: one is in progress and nothing changes, or it starts
with no cycle charged. -/
theorem ensureInstr_spec (s : State) :
    (s.clk.inInstr = true ∧ ensureInstr s = s) ∨
    (s.clk.inInstr = false ∧ ensureInstr s = s.setClk { s.clk with inInstr := true, instrCost := 0 }) := by
  cases h : s.clk.inInstr with
  | true => exact .inl ⟨rfl, by rw [ensureInstr, if_pos h]⟩
  | false => exact .inr ⟨rfl, by rw [ensureInstr, if_neg (by rw [h]; decide)]; rfl⟩

/-- CPU_END needs an instruction in progress that has charged a cycle. -/
theorem ensureInstr_cost_eq_zero (s : State) :
    (ensureInstr s).clk.instrCost = 0 ↔ s.clk.inInstr = false ∨ s.clk.instrCost = 0 := by
  rcases ensureInstr_spec s with ⟨h, e⟩ | ⟨h, e⟩
  · rw [e, h]; simp
  · rw [e, h]; simp [State.setClk]

@[simp] theorem ioAccess_write (port data : Byte) : ioAccess true port data = ⟨true, port, data⟩ := rfl

@[simp] theorem ioAccess_read (port data : Byte) : ioAccess false port data = ⟨false, port, 0⟩ := rfl

/-- Everything the release of a held access can do. -/
theorem releaseHeld_spec (s : State) :
    (s.clk.pendingIo = none ∧ releaseHeld s = s) ∨
    (∃ x, s.clk.pendingIo = some x ∧ s.clk.accCpu < 0 ∧ releaseHeld s = s) ∨
    (∃ x, s.clk.pendingIo = some x ∧ 0 ≤ s.clk.accCpu ∧
      releaseHeld s = performIo x (s.setClk { s.clk with pendingIo := none })) := by
  unfold releaseHeld
  split
  · rename_i h; exact .inl ⟨h, rfl⟩
  · rename_i x h
    by_cases hn : s.clk.accCpu < 0
    · exact .inr (.inl ⟨x, h, hn, by rw [if_pos hn]⟩)
    · exact .inr (.inr ⟨x, h, by omega, by rw [if_neg hn]⟩)

/-- Everything a turn of CpuRun's loop can do after the held access. -/
theorem cpuDue_spec (s : State) :
    (s.clk.pendingIo.isSome = true ∧ cpuDue s = (.done, s)) ∨
    (s.clk.pendingIo = none ∧ s.clk.inInstr = true ∧ cpuDue s = (.wants, s)) ∨
    (s.clk.pendingIo = none ∧ s.clk.inInstr = false ∧ 0 ≤ s.clk.accCpu ∧ cpuDue s = (.wants, startInstr s)) ∨
    (s.clk.pendingIo = none ∧ s.clk.inInstr = false ∧ s.clk.accCpu < 0 ∧ cpuDue s = (.done, s)) := by
  unfold cpuDue
  cases hp : s.clk.pendingIo with
  | some x => exact .inl ⟨rfl, rfl⟩
  | none =>
    cases hi : s.clk.inInstr with
    | true => exact .inr (.inl ⟨rfl, rfl, rfl⟩)
    | false =>
      by_cases ha : 0 ≤ s.clk.accCpu
      · exact .inr (.inr (.inl ⟨rfl, rfl, ha, by simp [ha]⟩))
      · exact .inr (.inr (.inr ⟨rfl, rfl, by omega, by simp [ha]⟩))

/-! ## The sound catch-up -/

/-- A sound tick keeps CLK. -/
@[simp] theorem soundTick_clk (s : State) : (soundTick s).clk = s.clk := by rw [soundTick_eq]

/-- A video slot keeps CLK. -/
@[simp] theorem videoSlot_clk (s : State) : (videoSlot s).clk = s.clk := by rw [videoSlot_writes s]

/-- Paying for a tick that was due never overflows. -/
theorem paySnd_of_due {s : State} (h0 : 0 ≤ s.clk.accSnd) (h1 : fitsS64 s.clk.accSnd = true) :
    paySnd s = s.setClk { s.clk with accSnd := s.clk.accSnd - one } := by
  have h2 := (fitsS64_iff _).mp h1
  have hf : fitsS64 (s.clk.accSnd - one) = true := by
    rw [fitsS64_iff]; simp only [one]; omega
  rw [paySnd, updateSnd, if_pos hf]

/-- The state t is s but for acc_snd, SND, INT and the trace. -/
def SameButSound (s t : State) : Prop :=
  t = { s with
    clk := { s.clk with accSnd := t.clk.accSnd }, snd := t.snd, intr := t.intr, trace := t.trace }

/-- Everything the loop of the sound catch-up can change, from an accumulator in range. -/
theorem soundLoop_writes (n : Nat) (s : State) (hf : s.clk.faulted = false) (h : fitsS64 s.clk.accSnd = true) :
    SameButSound s (soundLoop n s) ∧ (soundLoop n s).clk.faulted = false := by
  induction n generalizing s with
  | zero => exact ⟨rfl, hf⟩
  | succ n ih =>
    by_cases h0 : 0 ≤ s.clk.accSnd
    · have hp : paySnd (soundTick s) = (soundTick s).setClk { s.clk with accSnd := s.clk.accSnd - one } := by
        rw [paySnd_of_due (by rw [soundTick_clk]; exact h0) (by rw [soundTick_clk]; exact h), soundTick_clk]
      have hfit : fitsS64 (s.clk.accSnd - one) = true := by
        have h2 := (fitsS64_iff _).mp h
        rw [fitsS64_iff]; simp only [one]; omega
      have hu : soundLoop (n + 1) s = soundLoop n (paySnd (soundTick s)) := by
        rw [soundLoop, if_pos h0, unlessFatal_of_running _ (by rw [hp]; exact hf)]
      have hi := ih (paySnd (soundTick s)) (by rw [hp]; exact hf) (by rw [hp]; exact hfit)
      rw [hu]
      refine ⟨?_, hi.2⟩
      have h1 := hi.1
      unfold SameButSound at *
      rw [h1, hp, soundTick_eq]
      rfl
    · have hu : soundLoop (n + 1) s = s := by rw [soundLoop, if_neg h0]
      rw [hu]
      exact ⟨rfl, hf⟩

/-- The observers are recorded, and nothing of the block changes (R414). -/
theorem callObservers_eq (s : State) :
    callObservers s =
      { s with observed := s.observed ++ s.params.observers.map fun o => ⟨o, s.vid.line, s.vid.slot⟩ } := rfl

end Sys2Proof.Machine
end

