-- ==== Sys2Proof/Laws/Snapshot.lean ====
section
/-! SUPPORT. Loads and resets: everything a replacement of the interrupt unit, a load and a reset can do. -/

namespace Sys2Proof.Machine

/-- The events of a replaced interrupt unit: none where the line stays as it is. -/
def replaceEvents (old new : Intr) : List Event := if old.irq = new.irq then [] else [irqEvent new.irq]

/-- Everything a replacement of the interrupt unit can do. -/
theorem replaceIntr_eq (i : Intr) (s : State) :
    replaceIntr i s = { s with intr := i, trace := s.trace ++ replaceEvents s.intr i } := by
  unfold replaceIntr replaceEvents
  by_cases h : s.intr.irq = i.irq
  · simp [h, State.setIntr]
  · simp only [h, if_false]; rfl

/-- Everything a load can do in a running block: a failed check resets the subsystem and gives the error; else the
record's fields are written. -/
theorem snapshotLoad_spec (u : Subsystem) (d : List Byte) (s : State) :
    (∃ c, loadProblem u d s = some c ∧ snapshotLoad u d s = raiseSnapshot u c s) ∨
    (loadProblem u d s = none ∧ snapshotLoad u d s = complete (writeRecord u d s)) := by
  unfold snapshotLoad
  cases loadProblem u d s with
  | some c => exact .inl ⟨c, rfl, rfl⟩
  | none => exact .inr ⟨rfl, rfl⟩

/-- Where the checks of a list all hold, none is broken. -/
theorem firstBroken_none_iff (l : List (Bool × RecordCheck)) :
    firstBroken l = none ↔ ∀ x ∈ l, x.1 = true := by
  induction l with
  | nil => simp [firstBroken]
  | cons x l ih =>
    obtain ⟨b, c⟩ := x
    cases b <;> simp [firstBroken, ih]

/-- Everything RESET can do: the four units at their reset values, no slot step in progress, and the event of a
line that falls. -/
theorem resetBlock_eq (s : State) :
    resetBlock s =
      { s with
        clk := Clk.reset, vid := Vid.reset, snd := Snd.reset, intr := Intr.reset, slotOpen := false
        trace := s.trace ++ (if s.intr.irq then [.irqClear] else []) } := by
  unfold resetBlock
  cases s.intr.irq <;> simp [powerOnUnits, State.setClk, State.setVid, State.setSnd, State.setIntr,
    State.setSlotOpen, State.emit]

end Sys2Proof.Machine
end

