-- ==== Sys2Proof/Laws/Step.lean ====
section
/-! SUPPORT. The induction over what a step can do, once: a property of the units, the trace and the memories that
each of ten operations keeps is kept by exec and by step. -/

namespace Sys2Proof.Machine

/-- What the property may speak of: not the scheduler's fields, the replies or the inputs. -/
def State.units (s : State) := (s.params, s.vid, s.snd, s.intr, s.trace, s.mem, s.pageMap)

/-- The property depends on the units alone, and each operation on them keeps it. -/
structure StepClosed (P : State → Prop) : Prop where
  frame : ∀ s t, s.units = t.units → P s → P t
  videoSlot : ∀ s, P s → P (videoSlot s)
  soundTick : ∀ s, P s → P (soundTick s)
  portWrite : ∀ o v s, P s → P (portWrite o v s)
  ext2 : ∀ l s, P s → P (ext2 l s)
  load : ∀ u d s, loadProblem u d s = none → P s → P (writeRecord u d s)
  resetSub : ∀ u s, P s → P (resetSubsystem u s)
  reset : ∀ s, P s → P (resetBlock s)
  collab : ∀ c s, P s → P (collaborate c s)
  render : ∀ r s, P s → P (runRenderer r s).2

variable {P : State → Prop} (C : StepClosed P)
include C

theorem StepClosed.of_refuse (r s) (h : P s) : P (refuse r s) := C.frame s _ rfl h
theorem StepClosed.of_raiseFatal (r s) (h : P s) : P (raiseFatal r s) := C.frame s _ rfl h
theorem StepClosed.of_complete (s) (h : P s) : P (complete s) := by
  unfold complete; split; exact h; exact C.frame s _ rfl h
theorem StepClosed.of_accept (f : State → State) (s) (h : P s) (hf : ∀ s, P s → P (f s)) : Next (accept f s) P := by
  unfold accept; split
  · exact C.of_refuse _ _ h
  · exact hf s h
theorem StepClosed.of_acceptConfigured (f : State → State) (s) (h : P s) (hf : ∀ s, P s → P (f s)) :
    Next (acceptConfigured f s) P := by
  refine C.of_accept _ s h ?_
  intro s h
  split
  · exact hf s h
  · exact C.of_refuse _ _ h
theorem StepClosed.of_perform (f : State → State) (s) (h : P s) (hf : ∀ s, P s → P (f s)) : Next (perform f s) P :=
  C.of_accept _ s h fun s h => C.of_complete _ (hf s h)
theorem StepClosed.of_answerByte (f : State → Byte) (s) (h : P s) : Next (answerByte f s) P :=
  C.of_accept _ s h fun s h => C.frame s _ rfl h
theorem StepClosed.of_updateCpu (x s) (h : P s) : P (updateCpu x s) := by
  unfold updateCpu; split; exact C.frame s _ rfl h; exact C.of_raiseFatal _ _ h
theorem StepClosed.of_updateSnd (x s) (h : P s) : P (updateSnd x s) := by
  unfold updateSnd; split; exact C.frame s _ rfl h; exact C.of_raiseFatal _ _ h
omit C in
theorem StepClosed.of_unlessFatal (s f) (h : P s) (hf : ∀ s, P s → P (f s)) : P (unlessFatal s f) := by
  unfold unlessFatal; split; exact h; exact hf s h
theorem StepClosed.of_charge (n s) (h : P s) : P (charge n s) :=
  StepClosed.of_unlessFatal _ _ (C.of_updateCpu _ _ h) fun s h => C.frame s _ rfl h
theorem StepClosed.of_performIo (x s) (h : P s) : P (performIo x s) := by
  unfold performIo; split
  · split
    · exact C.portWrite _ _ _ h
    · exact C.frame s _ rfl h
  · split <;> exact C.frame s _ rfl h
theorem StepClosed.of_cpuIo (x s) (h : P s) : P (cpuIo x s) := by
  unfold cpuIo
  refine StepClosed.of_unlessFatal _ _ (C.of_charge _ _ h) fun s h => ?_
  split
  · exact C.frame s _ rfl h
  · exact C.of_performIo _ _ h
theorem StepClosed.of_ensureInstr (s) (h : P s) : P (ensureInstr s) := by
  unfold ensureInstr; split; exact h; exact C.frame s _ rfl h
theorem StepClosed.of_completeAgent (s) (h : P s) : P (completeAgent s) := C.frame s _ rfl h
theorem StepClosed.of_refuseAgent (r s) (h : P s) : P (refuseAgent r s) := C.frame s _ rfl h
theorem StepClosed.of_cpuEvent (e s) (h : P s) : P (cpuEvent e s) := by
  unfold cpuEvent
  split
  · exact C.of_completeAgent _ (C.of_charge _ _ h)
  · split <;> first | exact C.of_completeAgent _ (C.of_charge _ _ h) | exact C.of_refuseAgent _ _ h
  · exact C.of_completeAgent _ (C.of_cpuIo _ _ h)
  · split
    · exact C.of_refuseAgent _ _ h
    · exact C.of_completeAgent _ (C.frame s _ rfl h)
theorem StepClosed.of_cpuInput (e s) (h : P s) : P (cpuInput e s) := by
  unfold cpuInput; split
  · exact C.of_cpuEvent _ _ h
  · exact C.collab _ _ h
theorem StepClosed.of_cpuTurn (s) (h : P s) : P (cpuTurn s).2 := by
  have hr : P (releaseHeld s) := by
    unfold releaseHeld; split
    · exact h
    · split
      · exact h
      · exact C.of_performIo _ _ (C.frame s _ rfl h)
  unfold cpuTurn; split
  · exact h
  · unfold cpuDue
    split
    · exact hr
    · split
      · exact hr
      · split
        · exact C.frame (releaseHeld s) _ rfl hr
        · exact hr
theorem StepClosed.of_cpuRun (q s) (h : P s) : P (cpuRun q s).2 := by
  induction q generalizing s with
  | nil => exact C.frame (cpuTurn s).2 _ rfl (C.of_cpuTurn s h)
  | cons i q ih =>
    unfold cpuRun
    split
    · exact ih _ (C.of_cpuInput _ _ (C.of_cpuTurn s h))
    · exact C.frame (cpuTurn s).2 _ rfl (C.of_cpuTurn s h)
    · exact C.frame (cpuTurn s).2 _ rfl (C.of_cpuTurn s h)
theorem StepClosed.of_slotFinish (x : Turn × State) (h : P x.2) : P (slotFinish x) := by
  obtain ⟨t, s⟩ := x
  cases t
  · refine C.of_complete _ ?_
    have h1 : P (s.setSlotOpen false) := C.frame s _ rfl h
    have h2 := C.videoSlot _ h1
    exact C.frame (Machine.videoSlot (s.setSlotOpen false)) _ rfl h2
  · exact C.frame s _ rfl h
  · exact C.frame s _ rfl h
theorem StepClosed.of_slotRun (s) (h : P s) : P (slotRun s) := C.of_slotFinish _ (C.of_cpuRun s.cpuIn s h)
theorem StepClosed.of_soundLoop (n s) (h : P s) : P (soundLoop n s) := by
  induction n generalizing s with
  | zero => exact h
  | succ n ih =>
    unfold soundLoop; split
    · exact StepClosed.of_unlessFatal _ _ (C.of_updateSnd _ _ (C.soundTick _ h)) ih
    · exact h
theorem StepClosed.of_slotStep (s) (h : P s) : P (slotStep s) := by
  refine StepClosed.of_unlessFatal _ _ ?_ fun s h => StepClosed.of_unlessFatal _ _ (C.of_updateCpu _ _ h) C.of_slotRun
  refine StepClosed.of_unlessFatal _ _ (C.of_updateSnd _ _ ?_) fun s h => C.of_soundLoop _ _ h
  exact C.frame s _ rfl h
theorem StepClosed.of_snapshotLoad (u d s) (h : P s) : P (snapshotLoad u d s) := by
  unfold snapshotLoad; split
  · exact C.frame (resetSubsystem u s) _ rfl (C.resetSub u s h)
  · exact C.of_complete _ (C.load u d s ‹_› h)
theorem StepClosed.of_returnGroup (r : Renderer) (s) (h : P s) :
    Next (returnGroup (runRenderer r s)) P := C.frame (runRenderer r s).2 _ rfl (C.render r s h)

/-- Every instruction keeps the property. -/
theorem StepClosed.of_exec (i : Instr) (s) (h : P s) : Next (exec i s) P := by
  cases i
  case slotStep => exact C.of_acceptConfigured _ s h C.of_slotStep
  case soundTick => exact C.of_perform _ s h C.soundTick
  case videoSlot => exact C.of_perform _ s h C.videoSlot
  case cpuCycles =>
    exact C.of_acceptConfigured _ s h fun s h => C.of_complete _ (C.of_charge _ _ (C.of_ensureInstr _ h))
  case cpuMemFetch a =>
    exact C.of_acceptConfigured (fun s => complete (cpuMem .fetch a (ensureInstr s))) s h fun s h =>
        C.of_complete _ (C.of_charge (waitCycles (ensureInstr s) .fetch a) _ (C.of_ensureInstr _ h))
  case cpuMemRead a =>
    exact C.of_acceptConfigured (fun s => complete (cpuMem .read a (ensureInstr s))) s h fun s h =>
        C.of_complete _ (C.of_charge (waitCycles (ensureInstr s) .read a) _ (C.of_ensureInstr _ h))
  case cpuMemWrite a =>
    exact C.of_acceptConfigured (fun s => complete (cpuMem .write a (ensureInstr s))) s h fun s h =>
        C.of_complete _ (C.of_charge (waitCycles (ensureInstr s) .write a) _ (C.of_ensureInstr _ h))
  case cpuIoRead =>
    exact C.of_acceptConfigured _ s h fun s h => C.of_complete _ (C.of_cpuIo _ _ (C.of_ensureInstr _ h))
  case cpuIoWrite =>
    exact C.of_acceptConfigured _ s h fun s h => C.of_complete _ (C.of_cpuIo _ _ (C.of_ensureInstr _ h))
  case cpuEnd =>
    refine C.of_acceptConfigured (fun s =>
      if (ensureInstr s).clk.instrCost = 0 then refuse .zeroCycles s else complete (endInstr (ensureInstr s))) s h ?_
    intro s h
    show P (if (ensureInstr s).clk.instrCost = 0 then refuse .zeroCycles s else complete (endInstr (ensureInstr s)))
    split
    · exact C.of_refuse _ _ h
    · exact C.of_complete _ (C.frame (ensureInstr s) _ rfl (C.of_ensureInstr _ h))
  case ext2 => exact C.of_perform _ s h (C.ext2 _)
  case configure a b c d e =>
    refine C.of_accept (configure a b c d e) s h ?_
    intro s h
    unfold Machine.configure
    split
    · exact C.frame s _ rfl h
    · exact C.of_complete _ (C.frame s _ rfl h)
  case snapshotSaveVideo =>
    exact C.of_accept (fun s => s.setReply (.record (videoRecord s.vid))) s h fun s h => C.frame s _ rfl h
  case snapshotSaveSound =>
    exact C.of_accept (fun s => s.setReply (.record (soundRecord s.snd))) s h fun s h => C.frame s _ rfl h
  case snapshotSaveInt =>
    exact C.of_accept (fun s => s.setReply (.record (intRecord s.intr))) s h fun s h => C.frame s _ rfl h
  case snapshotLoadVideo => exact C.of_accept _ s h fun s h => C.of_snapshotLoad _ _ s h
  case snapshotLoadSound => exact C.of_accept _ s h fun s h => C.of_snapshotLoad _ _ s h
  case snapshotLoadInt => exact C.of_accept _ s h fun s h => C.of_snapshotLoad _ _ s h
  case reset => exact C.of_complete _ (C.reset s h)
  case waitQueryFetch a =>
    exact C.of_acceptConfigured (fun s => s.setReply (.byte (waitCycles s .fetch a))) s h fun s h => C.frame s _ rfl h
  case waitQueryRead a =>
    exact C.of_acceptConfigured (fun s => s.setReply (.byte (waitCycles s .read a))) s h fun s h => C.frame s _ rfl h
  case waitQueryWrite a =>
    exact C.of_acceptConfigured (fun s => s.setReply (.byte (waitCycles s .write a))) s h fun s h => C.frame s _ rfl h
  case waitQueryIo a =>
    exact C.of_acceptConfigured (fun s => s.setReply (.byte (waitCycles s .io (a.setWidth 16)))) s h fun s h =>
        C.frame s _ rfl h
  case pwIntCtrl v => exact C.of_perform _ s h fun s h => C.portWrite 0x10 v s h
  case pwFixbias v => exact C.of_perform _ s h fun s h => C.portWrite 0x18 v s h
  case pwBorder v => exact C.of_perform _ s h fun s h => C.portWrite 0x19 v s h
  case pwLptLo v => exact C.of_perform _ s h fun s h => C.portWrite 0x1A v s h
  case pwLptHi v => exact C.of_perform _ s h fun s h => C.portWrite 0x1B v s h
  case pwSndR0 v => exact C.of_perform _ s h fun s h => C.portWrite 0 v s h
  case pwSndR1 v => exact C.of_perform _ s h fun s h => C.portWrite 1 v s h
  case pwSndR2 v => exact C.of_perform _ s h fun s h => C.portWrite 2 v s h
  case pwSndR3 v => exact C.of_perform _ s h fun s h => C.portWrite 3 v s h
  case pwSndR4 v => exact C.of_perform _ s h fun s h => C.portWrite 4 v s h
  case pwSndR5 v => exact C.of_perform _ s h fun s h => C.portWrite 5 v s h
  case pwSndR6 v => exact C.of_perform _ s h fun s h => C.portWrite 6 v s h
  case pwSndR7 v => exact C.of_perform _ s h fun s h => C.portWrite 7 v s h
  case pwSndR8 v => exact C.of_perform _ s h fun s h => C.portWrite 8 v s h
  case pwSndR9 v => exact C.of_perform _ s h fun s h => C.portWrite 9 v s h
  case pwSndR10 v => exact C.of_perform _ s h fun s h => C.portWrite 10 v s h
  case pwSndR11 v => exact C.of_perform _ s h fun s h => C.portWrite 11 v s h
  case pwSndR12 v => exact C.of_perform _ s h fun s h => C.portWrite 12 v s h
  case pwSndR13 v => exact C.of_perform _ s h fun s h => C.portWrite 13 v s h
  case pwSndR14 v => exact C.of_perform _ s h fun s h => C.portWrite 14 v s h
  case pwSndR15 v => exact C.of_perform _ s h fun s h => C.portWrite 15 v s h
  case border => exact C.of_returnGroup .border s h
  case sync => exact C.of_returnGroup .sync s h
  case invalid => exact C.of_returnGroup .invalid s h
  case attrib => exact C.of_returnGroup .attrib s h
  case pixel_2c => exact C.of_returnGroup .pixel_2c s h
  case pixel_2c_msb => exact C.of_returnGroup .pixel_2c_msb s h
  case pixel_2c_lsb => exact C.of_returnGroup .pixel_2c_lsb s h
  case pixel_2c_lsb_msb => exact C.of_returnGroup .pixel_2c_lsb_msb s h
  case pixel_4c => exact C.of_returnGroup .pixel_4c s h
  case pixel_4c_lsb => exact C.of_returnGroup .pixel_4c_lsb s h
  case pixel_16c => exact C.of_returnGroup .pixel_16c s h
  case pixel_256c => exact C.of_returnGroup .pixel_256c s h
  case lpixel_2c => exact C.of_returnGroup .lpixel_2c s h
  case lpixel_2c_msb => exact C.of_returnGroup .lpixel_2c_msb s h
  case lpixel_2c_lsb => exact C.of_returnGroup .lpixel_2c_lsb s h
  case lpixel_2c_lsb_msb => exact C.of_returnGroup .lpixel_2c_lsb_msb s h
  case lpixel_4c => exact C.of_returnGroup .lpixel_4c s h
  case lpixel_4c_lsb => exact C.of_returnGroup .lpixel_4c_lsb s h
  case lpixel_16c => exact C.of_returnGroup .lpixel_16c s h
  case lpixel_256c => exact C.of_returnGroup .lpixel_256c s h
  case ch256_2c => exact C.of_returnGroup .ch256_2c s h
  case ch256_2c_a0 => exact C.of_returnGroup .ch256_2c_a0 s h
  case ch256_2c_a1 => exact C.of_returnGroup .ch256_2c_a1 s h
  case ch256_2c_a0_a1 => exact C.of_returnGroup .ch256_2c_a0_a1 s h
  case ch256_4c => exact C.of_returnGroup .ch256_4c s h
  case ch256_4c_a1 => exact C.of_returnGroup .ch256_4c_a1 s h
  case ch256_16c => exact C.of_returnGroup .ch256_16c s h
  case ch256_256c => exact C.of_returnGroup .ch256_256c s h
  case ch128_2c => exact C.of_returnGroup .ch128_2c s h
  case ch128_2c_a0 => exact C.of_returnGroup .ch128_2c_a0 s h
  case ch128_2c_a1 => exact C.of_returnGroup .ch128_2c_a1 s h
  case ch128_2c_a0_a1 => exact C.of_returnGroup .ch128_2c_a0_a1 s h
  case ch128_4c => exact C.of_returnGroup .ch128_4c s h
  case ch128_4c_a1 => exact C.of_returnGroup .ch128_4c_a1 s h
  case ch128_16c => exact C.of_returnGroup .ch128_16c s h
  case ch128_256c => exact C.of_returnGroup .ch128_256c s h
  case ch64_2c => exact C.of_returnGroup .ch64_2c s h
  case ch64_2c_a0 => exact C.of_returnGroup .ch64_2c_a0 s h
  case ch64_2c_a1 => exact C.of_returnGroup .ch64_2c_a1 s h
  case ch64_2c_a0_a1 => exact C.of_returnGroup .ch64_2c_a0_a1 s h
  case ch64_4c => exact C.of_returnGroup .ch64_4c s h
  case ch64_4c_a1 => exact C.of_returnGroup .ch64_4c_a1 s h
  case ch64_16c => exact C.of_returnGroup .ch64_16c s h
  case ch64_256c => exact C.of_returnGroup .ch64_256c s h
  case prFixbias => exact C.of_answerByte (fun s => s.vid.fixbias) s h
  case prBorder => exact C.of_answerByte (fun s => s.vid.border) s h
  case prLptLo => exact C.of_answerByte (fun s => s.vid.lptLo) s h
  case prLptHi => exact C.of_answerByte (fun s => s.vid.lptHi) s h
  all_goals first
    | exact C.of_answerByte _ s h
    | exact C.of_perform _ s h fun s h => h

/-- Every step keeps the property. -/
theorem StepClosed.of_step (s) (h : P s) : Next (step s) P := by
  unfold step advance
  split
  · exact C.of_slotRun s h
  · unfold hostTurn
    split
    · exact h
    · unfold issue
      split
      · exact C.of_exec _ _ (C.frame s _ rfl h)
      · exact C.of_refuse _ _ (C.frame s _ rfl h)
    · exact C.collab _ _ (C.frame s _ rfl h)

end Sys2Proof.Machine
end

