-- ==== Sys2Proof/Machine/Assembly.lean ====
section
/-! DEFINITION. The assembler's lines as transactions: each line of 30_encoding.md R363 as its packet, and the
expansions of R364. The host's text itself is not modelled: a line is what its mnemonic and operands say. -/

namespace Sys2Proof.Machine

/-- An OP packet: class 0b10, a 6-bit opcode, imm8, and what follows the header (R300, R302). -/
def opPacket (opcode : BitVec 6) (imm : Byte) (words : List Word32) (bytes : List Byte) : Packet where
  header := (0b10 : BitVec 2) ++ opcode ++ imm
  words := words
  bytes := bytes

/-- A PW or PR packet: the class, H[13] = 0, the offset, and the low byte (R300). -/
def portPacket (cls : BitVec 2) (off : BitVec 5) (low : Byte) : Packet where
  header := cls ++ (0 : BitVec 1) ++ off ++ low
  words := []
  bytes := []

/-- The packet that a line of R363 stands for. The bits that a transaction ignores are 0. -/
def asmPacket (l : AsmLine) : Packet :=
  match l with
  | .pw off data => portPacket 0b00 off data
  | .pr off => portPacket 0b01 off 0
  | .slot => opPacket 0x00 0 [] []
  | .tick => opPacket 0x01 0 [] []
  | .vslot => opPacket 0x02 0 [] []
  | .cyc n => opPacket 0x03 n [] []
  | .mem kind a => opPacket 0x04 ((0 : BitVec 6) ++ kind) [addrWord a] []
  | .ioR port => opPacket 0x05 0 [ioWord port 0] []
  | .ioW port data => opPacket 0x05 1 [ioWord port data] []
  | .fin => opPacket 0x06 0 [] []
  | .ext2 level => opPacket 0x07 (if level then 1 else 0) [] []
  | .config mode fCpu fSlot fSnd nwait => opPacket 0x08 mode [fCpu, fSlot, fSnd, (0 : BitVec 24) ++ nwait] []
  | .save sub => opPacket 0x09 sub [] []
  | .load sub bytes => opPacket 0x0A sub [BitVec.ofNat 32 bytes.length] bytes
  | .reset => opPacket 0x0B 0 [] []
  | .waitq kind a => opPacket 0x0C ((0 : BitVec 6) ++ kind) [addrWord a] []

/-- The lines a pseudo-transaction of R364 stands for. TONE keeps the bits beside its own in the register that two
fields share, as they are stored when the line is expanded. -/
def expandPseudo (l : PseudoLine) (reg : Vector Byte 16) : List AsmLine :=
  match l with
  | .snd r v => [.pw ((0 : BitVec 1) ++ r) v]
  | .tone c f =>
    let low : Byte := f.extractLsb' 0 8
    let high : BitVec 4 := f.extractLsb' 8 4
    match c with
    | 0 => [.pw 0 low, .pw 3 (reg[3].extractLsb' 4 4 ++ high)]
    | 1 => [.pw 1 low, .pw 3 (high ++ reg[3].extractLsb' 0 4)]
    | 2 => [.pw 2 low, .pw 4 (reg[4].extractLsb' 4 4 ++ high)]
  | .intc v => [.pw 0x10 v]
  | .border v => [.pw 0x19 v]
  | .fixbias v => [.pw 0x18 v]
  | .lpt a => [.pw 0x1A (a.extractLsb' 0 8), .pw 0x1B (a.extractLsb' 8 8)]
  | .run n => List.replicate n .slot
  | .instr n => [.cyc n, .fin]

/-- What a line adds to the host's input. -/
def asmInput (l : AsmLine) : HostInput := .issue (.packet (asmPacket l))

/-- A pseudo-transaction put at the head of the host's input of s, expanded with the registers s stores. -/
def placePseudo (l : PseudoLine) (s : State) : State :=
  { s with hostIn := (expandPseudo l s.snd.reg).map asmInput ++ s.hostIn }

end Sys2Proof.Machine
end

