-- ==== Sys2Proof/Tests/Slice0.lean ====
section
/-! SUPPORT. Tests: what WellFormed and the decoder refuse, words of the spec's encoding tables, one step of each
instruction on the spec's test vectors, and for each statement with hypotheses a state and operands that meet them. -/

namespace Sys2Proof.Tests

-- One evaluation after another: side by side they ask for more threads than check.sh's memory allows.
set_option Elab.async false

open Sys2Proof Sys2Proof.Machine

/-! ## What WellFormed refuses -/

/-- A stream of 2^32 bytes has no length word (R304). -/
theorem test_wellFormed_refuses_long_loads :
    wellFormed (.snapshotLoadVideo (List.replicate 4294967296 0)) = false ∧
    wellFormed (.snapshotLoadSound (List.replicate 4294967296 0)) = false ∧
    wellFormed (.snapshotLoadInt (List.replicate 4294967296 0)) = false := by
  refine ⟨?_, ?_, ?_⟩ <;>
    · show decide ((List.replicate 4294967296 (0 : Byte)).length < 4294967296) = false
      rw [List.length_replicate]
      rfl

/-! ## What the decoder refuses (vectors EN1 to EN7, SN13, WS16) -/

theorem test_decode_refuses_headers :
    [0xC000, 0xFFFF, 0x2005, 0x6000, 0x8D00, 0xBFFF, 0x8903].map (decodeTableWord 16) =
      [none, none, none, none, none, none, none] ∧
    decodeTableWord 48 0x00008000_8403 = none ∧
    decodeTableWord 144 0x00000100_0003D090_000F4240_003D0900_8800 = none ∧
    decodeTableWord 80 0x04030201_00000004_8A03 = none := by decide +kernel

theorem test_decode_refuses_by_name :
    decode (packetOf 0xC0 0 [] []) = .error .reservedClass ∧
    decode (packetOf 0x20 5 [] []) = .error .reservedBit13 ∧
    decode (packetOf 0x8D 0 [] []) = .error .reservedOpcode ∧
    decode (packetOf 0x84 3 [0x8000] []) = .error .reservedKind ∧
    decode (packetOf 0x88 0 [1, 1, 1, 0x100] []) = .error .nwaitHighBits ∧
    decode (packetOf 0x89 3 [] []) = .error .reservedSubsystem ∧
    decode (packetOf 0x80 0 [1] []) = .error .wrongLength := by decide +kernel

/-! ## Words of the spec's encoding tables -/

/-- R300, R310: PW words, the offset in bits 12:8 and the data 0x5A in bits 7:0. -/
theorem test_decode_pw_sound :
    [0x005A, 0x015A, 0x025A, 0x035A, 0x045A, 0x055A, 0x065A, 0x075A,
      0x085A, 0x095A, 0x0A5A, 0x0B5A, 0x0C5A, 0x0D5A, 0x0E5A, 0x0F5A].map (decodeTableWord 16) =
      [some (.pwSndR0 0x5A), some (.pwSndR1 0x5A), some (.pwSndR2 0x5A), some (.pwSndR3 0x5A),
       some (.pwSndR4 0x5A), some (.pwSndR5 0x5A), some (.pwSndR6 0x5A), some (.pwSndR7 0x5A),
       some (.pwSndR8 0x5A), some (.pwSndR9 0x5A), some (.pwSndR10 0x5A), some (.pwSndR11 0x5A),
       some (.pwSndR12 0x5A), some (.pwSndR13 0x5A), some (.pwSndR14 0x5A), some (.pwSndR15 0x5A)] := by
  decide +kernel

/-- R300, R310: PR words, class 01 and the offset in bits 12:8. -/
theorem test_decode_pr_sound :
    [0x4000, 0x4100, 0x4200, 0x4300, 0x4400, 0x4500, 0x4600, 0x4700,
      0x4800, 0x4900, 0x4A00, 0x4B00, 0x4C00, 0x4D00, 0x4E00, 0x4F00].map (decodeTableWord 16) =
      [some .prSndR0, some .prSndR1, some .prSndR2, some .prSndR3,
       some .prSndR4, some .prSndR5, some .prSndR6, some .prSndR7,
       some .prSndR8, some .prSndR9, some .prSndR10, some .prSndR11,
       some .prSndR12, some .prSndR13, some .prSndR14, some .prSndR15] := by decide +kernel

/-- R300, R310: PW words, the offset in bits 12:8 and the data 0x5A in bits 7:0. -/
theorem test_decode_pw_interrupts_video_reserved :
    [0x105A, 0x115A, 0x125A, 0x135A, 0x145A, 0x155A, 0x165A, 0x175A,
      0x185A, 0x195A, 0x1A5A, 0x1B5A, 0x1C5A, 0x1D5A, 0x1E5A, 0x1F5A].map (decodeTableWord 16) =
      [some (.pwIntCtrl 0x5A), some (.pwReserved11 0x5A), some (.pwReserved12 0x5A), some (.pwReserved13 0x5A),
       some (.pwReserved14 0x5A), some (.pwReserved15 0x5A), some (.pwReserved16 0x5A), some (.pwReserved17 0x5A),
       some (.pwFixbias 0x5A), some (.pwBorder 0x5A), some (.pwLptLo 0x5A), some (.pwLptHi 0x5A),
       some (.pwReserved1C 0x5A), some (.pwReserved1D 0x5A), some (.pwReserved1E 0x5A), some (.pwReserved1F 0x5A)] := by
  decide +kernel

/-- R300, R310: PR words, class 01 and the offset in bits 12:8. -/
theorem test_decode_pr_interrupts_video_reserved :
    [0x5000, 0x5100, 0x5200, 0x5300, 0x5400, 0x5500, 0x5600, 0x5700,
      0x5800, 0x5900, 0x5A00, 0x5B00, 0x5C00, 0x5D00, 0x5E00, 0x5F00].map (decodeTableWord 16) =
      [some .prIntStatus, some .prReserved11, some .prReserved12, some .prReserved13,
       some .prReserved14, some .prReserved15, some .prReserved16, some .prReserved17,
       some .prFixbias, some .prBorder, some .prLptLo, some .prLptHi,
       some .prReserved1C, some .prReserved1D, some .prReserved1E, some .prReserved1F] := by decide +kernel

/-- R302: the OP words that take no operand word. -/
theorem test_decode_op_no_operand :
    [0x8000, 0x8100, 0x8200, 0x83FF, 0x8600, 0x8700, 0x8701, 0x8900,
      0x8901, 0x8902, 0x8B00].map (decodeTableWord 16) =
      [some .slotStep, some .soundTick, some .videoSlot, some (.cpuCycles 255),
       some .cpuEnd, some (.ext2 false), some (.ext2 true), some .snapshotSaveVideo,
       some .snapshotSaveSound, some .snapshotSaveInt, some .reset] := by decide +kernel

/-- R302, R304: the OP words with one operand word (vectors WS15, WS13, EN12 among them). -/
theorem test_decode_op_one_word :
    [0x00008000_8400, 0x00008001_8401, 0x0000C000_8402, 0x00000099_8500, 0x00002A99_8501,
      0x00008000_8C00, 0x00001234_8C01, 0x0000FFFF_8C02,
      0x00001299_8C03].map (decodeTableWord 48) =
      [some (.cpuMemFetch 0x8000), some (.cpuMemRead 0x8001), some (.cpuMemWrite 0xC000), some (.cpuIoRead 0x99),
       some (.cpuIoWrite 0x99 0x2A), some (.waitQueryFetch 0x8000), some (.waitQueryRead 0x1234),
       some (.waitQueryWrite 0xFFFF),
       some (.waitQueryIo 0x99)] := by decide +kernel

/-- R302, R304: CONFIGURE with its four operand words (vector CK1 with mode 1 and NWAIT 5). -/
theorem test_decode_configure :
    [0x00000005_0003D090_000F4240_003D0900_8801].map (decodeTableWord 144) =
      [some (.configure 1 4000000 1000000 250000 5)] := by decide +kernel

/-- R302, R304: SNAPSHOT_LOAD, the byte count in the operand word and then the bytes. -/
theorem test_decode_load :
    [0x04030201_00000004_8A00, 0x04030201_00000004_8A01, 0x04030201_00000004_8A02].map (decodeTableWord 80) =
      [some (.snapshotLoadVideo [1, 2, 3, 4]), some (.snapshotLoadSound [1, 2, 3, 4]), some (.snapshotLoadInt [1, 2, 3, 4])] := by
  decide +kernel

/-! ## The assembler's lines (R363, R364, vector EN14, and the headers of 95_test_vectors.md section 1) -/

theorem test_assembler_expansions :
    expandPseudo (.tone 1 0x5A3) (Snd.reset.reg.set 3 0x0C) = [.pw 1 0xA3, .pw 3 0x5C] ∧
    expandPseudo (.tone 2 0x5A3) (Snd.reset.reg.set 4 0x6C) = [.pw 2 0xA3, .pw 4 0x65] ∧
    expandPseudo (.lpt 0x1234) Snd.reset.reg = [.pw 0x1A 0x34, .pw 0x1B 0x12] ∧
    (expandPseudo (.instr 4) Snd.reset.reg).map (fun l => (asmPacket l).header) = [0x8304, 0x8600] := by decide

theorem test_assembler_lines :
    decodePacket (asmPacket (.waitq 0 0x8000)) = .ok (.waitQueryFetch 0x8000) ∧
    decodePacket (asmPacket (.ioW 0x99 5)) = .ok (.cpuIoWrite 0x99 5) ∧
    decodePacket (asmPacket (.config 0 4000000 1000000 250000 1)) =
      .ok (.configure 0 4000000 1000000 250000 1) ∧
    decodePacket (asmPacket (.load 1 [])) = .ok (.snapshotLoadSound []) ∧
    decodePacket (asmPacket (.pr 0x10)) = .ok .prIntStatus := by decide


/-- R340: the keys of the RKEY rows (vectors RN1 to RN44). -/
theorem test_decode_key_plain :
    [0x000, 0x200, 0x380, 0x280].map (decodeTableWord 10) =
      [some .border, some .sync, some .invalid, some .attrib] := by decide +kernel

/-- R340: the keys of the RKEY rows (vectors RN1 to RN44). -/
theorem test_decode_key_pixel :
    [0x240, 0x244, 0x248, 0x24C, 0x250, 0x258, 0x260, 0x270].map (decodeTableWord 10) =
      [some .pixel_2c, some .pixel_2c_msb, some .pixel_2c_lsb, some .pixel_2c_lsb_msb,
       some .pixel_4c, some .pixel_4c_lsb, some .pixel_16c, some .pixel_256c] := by decide +kernel

/-- R340: the keys of the RKEY rows (vectors RN1 to RN44). -/
theorem test_decode_key_lpixel :
    [0x3C0, 0x3C4, 0x3C8, 0x3CC, 0x3D0, 0x3D8, 0x3E0, 0x3F0].map (decodeTableWord 10) =
      [some .lpixel_2c, some .lpixel_2c_msb, some .lpixel_2c_lsb, some .lpixel_2c_lsb_msb,
       some .lpixel_4c, some .lpixel_4c_lsb, some .lpixel_16c, some .lpixel_256c] := by decide +kernel

/-- R340: the keys of the RKEY rows (vectors RN1 to RN44). -/
theorem test_decode_key_ch256 :
    [0x2C0, 0x2C2, 0x2C1, 0x2C3, 0x2D0, 0x2D1, 0x2E0, 0x2F0].map (decodeTableWord 10) =
      [some .ch256_2c, some .ch256_2c_a0, some .ch256_2c_a1, some .ch256_2c_a0_a1,
       some .ch256_4c, some .ch256_4c_a1, some .ch256_16c, some .ch256_256c] := by decide +kernel

/-- R340: the keys of the RKEY rows (vectors RN1 to RN44). -/
theorem test_decode_key_ch128 :
    [0x300, 0x302, 0x301, 0x303, 0x310, 0x311, 0x320, 0x330].map (decodeTableWord 10) =
      [some .ch128_2c, some .ch128_2c_a0, some .ch128_2c_a1, some .ch128_2c_a0_a1,
       some .ch128_4c, some .ch128_4c_a1, some .ch128_16c, some .ch128_256c] := by decide +kernel

/-- R340: the keys of the RKEY rows (vectors RN1 to RN44). -/
theorem test_decode_key_ch64 :
    [0x340, 0x342, 0x341, 0x343, 0x350, 0x351, 0x360, 0x370].map (decodeTableWord 10) =
      [some .ch64_2c, some .ch64_2c_a0, some .ch64_2c_a1, some .ch64_2c_a0_a1,
       some .ch64_4c, some .ch64_4c_a1, some .ch64_16c, some .ch64_256c] := by decide +kernel

/-! ## One step of each instruction, on the vectors of 95_test_vectors.md -/

/-- The next state of an instruction; the state itself where there is none. -/
def after (i : Instr) (s : State) : State :=
  match exec i s with
  | .next t => t
  | .fault _ => s
  | .refused _ => s

/-- What the issuer of an instruction gets. -/
def replyOf (i : Instr) (s : State) : Reply := (after i s).reply

/-- The state after the CONFIGURE of vectors CK1 and WS1 (R_cpu = 4·ONE, R_snd = 2^30, mode 0, NWAIT 1), with the
page map of section 1. -/
def configured : State :=
  after (.configure 0 4000000 1000000 250000 1)
    { State.reset with pageMap := [(1, 1), (2, 0xFC), (3, 0xFD)] }

/-- The configured state with another acc_cpu. -/
def atCpu (x : Int) : State := { configured with clk := { configured.clk with accCpu := x } }

/-- Reset with a given sound unit, video unit or interrupt unit. -/
def withSnd (n : Snd) : State := { State.reset with snd := n }

def withVid (v : Vid) : State := { State.reset with vid := v }

def withIntr (i : Intr) : State := { State.reset with intr := i }

/-- The sound registers at reset, but for two. -/
def sndRegs (i : Fin 16) (x : Byte) (j : Fin 16) (y : Byte) : Snd :=
  { Snd.reset with reg := (Snd.reset.reg.set i x).set j y }

/-- The samples of a trace. -/
def samples (s : State) : List (BitVec 16 × BitVec 16) :=
  s.trace.filterMap fun e =>
    match e with
    | .sample l r => some (l, r)
    | .scanline _ _ => none
    | .vsync _ _ => none
    | .irqRequest => none
    | .irqClear => none

/-- Vectors S1 and S2, R700 to R703: the period fields that each register holds. -/
theorem test_period_registers :
    (after (.pwSndR0 0x34) (withSnd (sndRegs 3 0x02 3 0x02))).snd.period 0 = 0x234 ∧
    (after (.pwSndR1 0xA3) (withSnd (sndRegs 3 0x5C 3 0x5C))).snd.period 1 = 0x5A3 ∧
    (after (.pwSndR2 0x12) (withSnd (sndRegs 4 0x07 4 0x07))).snd.period 2 = 0x712 ∧
    (after (.pwSndR3 0x21) State.reset).snd.period 0 = 0x100 ∧
    (after (.pwSndR3 0x21) State.reset).snd.period 1 = 0x200 ∧
    (after (.pwSndR4 0x73) State.reset).snd.period 2 = 0x300 := by decide +kernel

/-- Vectors S8, S9 and EN10: NoiseWidthChange on a write of register 4, which stores its unused bit 7. -/
theorem test_register4_width :
    (after (.pwSndR4 0x10) State.reset).snd.lfsr = 0xF ∧
    (after (.pwSndR4 0x00) (withSnd { sndRegs 4 0x60 4 0x60 with lfsr := 0x7FF0 })).snd.lfsr = 0xF ∧
    (after (.pwSndR4 0x00) (withSnd { sndRegs 4 0x60 4 0x60 with lfsr := 0x7FF5 })).snd.lfsr = 0x5 ∧
    replyOf .prSndR4 (after (.pwSndR4 0xF3) State.reset) = .byte 0xF3 := by decide +kernel

/-- R705 to R708, R710 to R715: the other registers store what is written. -/
theorem test_plain_sound_registers :
    (after (.pwSndR5 0x81) State.reset).snd.reg[5] = 0x81 ∧ (after (.pwSndR6 0x82) State.reset).snd.reg[6] = 0x82 ∧
    (after (.pwSndR7 0x83) State.reset).snd.reg[7] = 0x83 ∧ (after (.pwSndR8 0x84) State.reset).snd.reg[8] = 0x84 ∧
    (after (.pwSndR10 0x85) State.reset).snd.reg[10] = 0x85 ∧ (after (.pwSndR11 0x86) State.reset).snd.reg[11] = 0x86 ∧
    (after (.pwSndR12 0x87) State.reset).snd.reg[12] = 0x87 ∧ (after (.pwSndR13 0x88) State.reset).snd.reg[13] = 0x88 ∧
    (after (.pwSndR14 0x89) State.reset).snd.reg[14] = 0x89 ∧
    (after (.pwSndR15 0x8A) State.reset).snd.reg[15] = 0x8A := by decide +kernel

/-- Vectors S26 and S24, R726: the restart of a write of register 9. -/
theorem test_register9_restart :
    (after (.pwSndR9 0x00) (withSnd { Snd.reset with envPos := 17, envDir := .up })).snd =
      { Snd.reset with envPos := 31, envDir := .down } ∧
    (after (.pwSndR9 0x0E) (withSnd (sndRegs 8 2 8 2))).snd.envPos = 0 ∧
    (after (.pwSndR9 0x0E) (withSnd (sndRegs 8 2 8 2))).snd.envDir = .up ∧
    (after (.pwSndR9 0x0E) (withSnd (sndRegs 8 2 8 2))).snd.envCnt = 2 := by decide +kernel

/-- R716: each PR reads its own register. -/
theorem test_sound_reads :
    let s := withSnd { Snd.reset with reg := Vector.ofFn fun i => BitVec.ofNat 8 (0x80 + i.val) }
    [Instr.prSndR0, .prSndR1, .prSndR2, .prSndR3, .prSndR4, .prSndR5, .prSndR6, .prSndR7, .prSndR8, .prSndR9,
      .prSndR10, .prSndR11, .prSndR12, .prSndR13, .prSndR14, .prSndR15].map (fun i => replyOf i s) =
    [.byte 0x80, .byte 0x81, .byte 0x82, .byte 0x83, .byte 0x84, .byte 0x85, .byte 0x86, .byte 0x87, .byte 0x88,
      .byte 0x89, .byte 0x8A, .byte 0x8B, .byte 0x8C, .byte 0x8D, .byte 0x8E, .byte 0x8F] := by decide +kernel

/-- Vectors S3, S6 and S7: one tick's sample, with the noise gate off, with it closed, and with both gates off. -/
theorem test_soundTick_gates :
    samples (after .soundTick (withSnd (sndRegs 10 0x0F 6 0x08))) = [(1500, 0)] ∧
    samples (after .soundTick (withSnd (sndRegs 10 0x0F 6 0x00))) = [(0, 0)] ∧
    samples (after .soundTick (withSnd (sndRegs 10 0x0F 6 0x3F))) = [(1500, 0)] := by decide +kernel

/-- Vectors S5 and S11: DAC mode, the envelope as an amplitude, and the first noise shift after reset. -/
theorem test_soundTick_levels :
    samples (after .soundTick (withSnd
      { Snd.reset with
        reg := #v[0, 0, 0, 0, 0, 0, 0x3F, 0, 0, 0x0C, 0, 0x10, 0x7F, 0, 0, 0x45], envPos := 1, envDir := .up })) =
      [(730, 50)] ∧
    (after .soundTick State.reset).snd.lfsr = 0xE ∧ (after .soundTick State.reset).snd.noiseOut = false := by
  decide +kernel

/-- Vectors IN1, IN2, IN4 to IN8: INT_CTRL, INT_STATUS and EXT2, with the events each emits. -/
theorem test_interrupt_ports :
    let pair : Intr :=
      { Intr.reset with latch := #v[true, true, false, false], enable := #v[true, true, false, false], irq := true }
    let masked : Intr := { Intr.reset with latch := #v[false, false, true, false] }
    replyOf .prIntStatus State.reset = .byte 0x45 ∧
    (after (.pwIntCtrl 0x07) (withIntr pair)).intr.latch = #v[false, true, false, false] ∧
    (after (.pwIntCtrl 0x07) (withIntr pair)).trace = [] ∧
    (after (.pwIntCtrl 0x0D) (withIntr { pair with latch := #v[false, true, false, false] })).trace = [.irqClear] ∧
    (after (.pwIntCtrl 0x10) (withIntr masked)).trace = [.irqRequest] ∧
    (after (.pwIntCtrl 0x00) (withIntr { masked with enable := #v[false, false, true, false], irq := true })).trace =
      [.irqClear] := by decide +kernel

theorem test_ext2_edges :
    let s := after (.pwIntCtrl 0x40) State.reset
    (after (.ext2 false) s).trace = [.irqRequest] ∧ replyOf .prIntStatus (after (.ext2 false) s) = .byte 0x85 ∧
    (after (.ext2 false) (after (.ext2 false) s)).trace = [.irqRequest] ∧
    replyOf .prIntStatus (after (.ext2 true) (after (.ext2 false) s)) = .byte 0xC5 := by decide +kernel

/-- Vectors EN8 and EN9, R361: the eleven reserved offsets. -/
theorem test_reserved_writes :
    ∀ i ∈ [Instr.pwReserved11 0x55, .pwReserved12 0x55, .pwReserved13 0x55, .pwReserved14 0x55, .pwReserved15 0x55,
      .pwReserved16 0x55, .pwReserved17 0x55, .pwReserved1C 0x55, .pwReserved1D 0x55, .pwReserved1E 0x55,
      .pwReserved1F 0x55], after i State.reset = { State.reset with reply := .completed } := by decide +kernel

theorem test_reserved_reads :
    ∀ i ∈ [Instr.prReserved11, .prReserved12, .prReserved13, .prReserved14, .prReserved15, .prReserved16,
      .prReserved17, .prReserved1C, .prReserved1D, .prReserved1E, .prReserved1F],
      replyOf i State.reset = .byte 0xFF := by decide +kernel

/-- Vectors VE4 to VE8: the video port registers, and palette index 9 after FIXBIAS 0x1F. -/
theorem test_video_ports :
    let s := withVid { Vid.reset with lptHi := 0x12 }
    (after (.pwLptLo 0x37) s).vid = { Vid.reset with lptHi := 0x12, lptLo := 0x37, lptBase := 0x1230 } ∧
    (after (.pwLptHi 0x12) (after (.pwLptLo 0x30) State.reset)).vid.lptBase = 0x1230 ∧
    (after (.pwLptHi 0x12) (after (.pwLptLo 0x30) State.reset)).vid.lptCur = 0x1230 ∧
    (after (.pwFixbias 0x1F) State.reset).vid.colour 9 = 0xF9 ∧
    (after (.pwBorder 0x2A) State.reset).vid.border = 0x2A := by decide +kernel

theorem test_video_port_reads :
    let s := withVid { Vid.reset with fixbias := 1, border := 2, lptLo := 0x3F, lptHi := 4 }
    replyOf .prFixbias s = .byte 1 ∧ replyOf .prBorder s = .byte 2 ∧ replyOf .prLptLo s = .byte 0x3F ∧
    replyOf .prLptHi s = .byte 4 := by decide +kernel

/-- Vector VE1, and VE3's Vsync in slot 8. -/
theorem test_videoSlot_first :
    let s := { State.reset with mem := [(0, 0x11), (1, 0x22)] }
    (after .videoSlot s).vid =
      { Vid.reset with
        slot := 1, lpbBuf := (Vid.reset.lpbBuf.set 0 0x11).set 1 0x22, busLast := 0x22, lineBuf := [1, 0] } ∧
    (after .videoSlot s).clk.slotCount = 0 ∧
    (after .videoSlot (withVid { Vid.reset with slot := 8, needLpb := false, linesLeft := 256 })).trace =
      [.vsync true 8] := by decide +kernel

/-- Vector VE23: the end of a frame's last line, with the fall of external line 1. -/
theorem test_videoSlot_endOfLine :
    let s := { State.reset with
      vid := { Vid.reset with
        slot := 56, needLpb := false, linesLeft := 1, lptBase := 0x120, lptCur := 0x130, line := 7
        lpb := Vid.reset.lpb.set 1 0x01 }
      intr := { Intr.reset with level := #v[true, true, true, true] } }
    (after .videoSlot s).vid =
      { Vid.reset with
        lptBase := 0x120, lptCur := 0x120, needLpb := true, linesLeft := 0, line := 0, lpb := Vid.reset.lpb.set 1 1 } ∧
    (after .videoSlot s).intr.latch = #v[false, false, true, false] ∧
    (after .videoSlot s).trace = [.scanline [1, 0] 2] := by decide +kernel

/-- Vectors CK1 and CK2: a CONFIGURE that completes. -/
theorem test_configure_values :
    configured.clk =
      { Clk.reset with
        rCpu := 17179869184, rSnd := 1073741824, recip := 4294967296, onehzHalf := 125000, memMode := .always
        nwait := 1, configured := true } ∧
    (after (.configure 0 4000000 889846 500000 0) State.reset).clk =
      { Clk.reset with
        rCpu := 19306564488, rSnd := 2413320561, recip := 3821859468, onehzHalf := 250000, memMode := .always
        configured := true } := by decide +kernel

/-- Vectors CK3 to CK9: the errors of CONFIGURE, in their order, and the ratios at the ends of the range. -/
theorem test_configure_errors :
    after (.configure 0 0 1 1 0) State.reset = { State.reset with reply := .configError .ce1 } ∧
    replyOf (.configure 3 1 1 1 0) State.reset = .configError .ce2 ∧
    replyOf (.configure 3 0 1 1 0) State.reset = .configError .ce1 ∧
    replyOf (.configure 0 16777216 1 1 0) State.reset = .configError .ce4 ∧
    (after (.configure 0 16777215 1 1 0) State.reset).clk.rCpu = 72057589742960640 ∧
    (after (.configure 0 1 4294967295 1 0) State.reset).clk.rCpu = 1 ∧
    (after (.configure 0 0 1 1 0) configured).clk.rCpu = 17179869184 := by decide +kernel

/-- Vectors CK10, CK14 and CK16: a slot step refused before CONFIGURE, one instruction of four cycles, and one of ten. -/
theorem test_slotStep_cpu :
    let one4 := { configured with cpuIn := [.event (.cycles 4), .event .fin] }
    let one10 := { configured with cpuIn := [.event (.cycles 10), .event .fin] }
    replyOf .slotStep State.reset = .refused .notConfigured ∧
    (after .slotStep one4).clk = { configured.clk with accSnd := -3221225473, slotCount := 1, instrCost := 4 } ∧
    (after .slotStep one4).vid.slot = 1 ∧ (after .slotStep one4).reply = .completed ∧
    (after .slotStep one10).clk.accCpu = -25769803777 := by decide +kernel

/-- Vector P4, steps 1 and 2: a port write held past the end of its slot, and performed in the next. -/
theorem test_slotStep_held :
    let first : List CpuInput :=
      [.event (.cycles 4), .event (.io true 0x99 0x2A), .event (.cycles 1), .event .fin, .event (.cycles 4), .event .fin]
    let held := after .slotStep { configured with cpuIn := first }
    let done := after .slotStep held
    held.clk.accCpu = -8589934593 ∧ held.clk.pendingIo = some ⟨true, 0x99, 0x2A⟩ ∧ held.clk.instrCost = 6 ∧
    held.vid.lineBuf = [1, 0] ∧ done.vid.border = 0x2A ∧ done.vid.lineBuf = [1, 0, 1, 0x2A] ∧
    done.clk.accCpu = -12884901889 ∧ done.clk.pendingIo = none := by decide +kernel

/-- Vectors CK17 and CK20's last event: the charge of CPU_CYCLES, and the FatalAssertion at the accumulator's end. -/
theorem test_cpuCycles :
    (after (.cpuCycles 2) (atCpu 12884901888)).clk =
      { configured.clk with accCpu := 4294967296, inInstr := true, instrCost := 2 } ∧
    replyOf (.cpuCycles 255) (atCpu (-9223371487098961921)) = .fatal .cpu ∧
    (after (.cpuCycles 255) (atCpu (-9223371487098961921))).clk.accCpu = -9223371487098961921 := by decide +kernel

/-- Vector WS15 and its row: the waits that the three memory events charge on a contended page at phase step 1. -/
theorem test_cpuMem :
    (after (.cpuMemFetch 0x8000) (atCpu 12884901887)).clk.accCpu = 4294967295 ∧
    (after (.cpuMemFetch 0x8000) (atCpu 12884901887)).clk.instrCost = 2 ∧
    (after (.cpuMemRead 0x8000) (atCpu 12884901887)).clk.accCpu = 8589934591 ∧
    (after (.cpuMemWrite 0x8000) (atCpu 12884901887)).clk.accCpu = 8589934591 := by decide +kernel

/-- Vectors EN12 and EN13: a CPU write to a port of the window, and one to a collaborator's port. The wait at phase
step 1 is one cycle. -/
theorem test_cpuIoWrite :
    (after (.cpuIoWrite 0x99 0x2A) (atCpu 12884901887)).vid.border = 0x2A ∧
    (after (.cpuIoWrite 0x42 0x2A) (atCpu 12884901887)).extIo = [.write 0x42 0x2A] ∧
    (after (.cpuIoWrite 0x42 0x2A) (atCpu 12884901887)).clk.accCpu = 8589934591 := by decide +kernel

theorem test_cpuIoRead :
    (after (.cpuIoRead 0x90) (atCpu 12884901887)).delivered = [0x45] ∧
    (after (.cpuIoRead 0x42) (atCpu 12884901887)).extIo = [.read 0x42] ∧
    (after (.cpuIoRead 0x90) (atCpu 0)).clk.pendingIo = some ⟨false, 0x90, 0⟩ := by decide +kernel

/-- Vectors CK18 and CK19, and R303's start of an instruction by an END that comes between two instructions. -/
theorem test_cpuEnd :
    replyOf .cpuEnd configured = .refused .zeroCycles ∧
    after .cpuEnd { configured with clk := { configured.clk with instrCost := 4 } } =
      { configured with
        clk := { configured.clk with instrCost := 4, refused := true }, reply := .refused .zeroCycles } ∧
    (after .cpuEnd { configured with clk := { configured.clk with inInstr := true, instrCost := 4 } }).clk =
      { configured.clk with instrCost := 4 } := by decide +kernel

/-- Vectors WS1 to WS4, WS14: the waits of a contended page over the four phase steps, and a refused query. -/
theorem test_waitQuery_contended :
    [(-1 : Int), 12884901887, 8589934591, 4294967295].map (fun x =>
      [replyOf (.waitQueryFetch 0x8000) (atCpu x), replyOf (.waitQueryRead 0x8000) (atCpu x),
       replyOf (.waitQueryWrite 0x8000) (atCpu x), replyOf (.waitQueryIo 0x99) (atCpu x)]) =
    [[.byte 3, .byte 2, .byte 2, .byte 2], [.byte 2, .byte 1, .byte 1, .byte 1],
     [.byte 1, .byte 1, .byte 1, .byte 0], [.byte 0, .byte 0, .byte 0, .byte 0]] ∧
    replyOf (.waitQueryFetch 0x8000) State.reset = .refused .notConfigured := by decide +kernel

/-- Vectors WS10 to WS12: the three modes on a page that is not contended, with NWAIT 5. -/
theorem test_waitQuery_modes :
    [MemMode.always, .fetchOnly, .never].map (fun m =>
      let s := { configured with clk := { configured.clk with memMode := m, nwait := 5 } }
      [replyOf (.waitQueryFetch 0x4000) s, replyOf (.waitQueryRead 0x4000) s, replyOf (.waitQueryWrite 0x4000) s]) =
    [[.byte 5, .byte 5, .byte 5], [.byte 5, .byte 0, .byte 0], [.byte 0, .byte 0, .byte 0]] := by decide +kernel

/-- SN1 to SN3: the records of the reset state. -/
def soundRecordReset : List Byte := [0, 0, 0, 1] ++ List.replicate 28 0 ++ [0x0F, 1, 0, 0, 0]

def videoRecordReset : List Byte := [0, 0, 0, 1] ++ List.replicate 39 0 ++ [1] ++ List.replicate 13 0

def intRecordReset : List Byte := [0, 0, 0, 1, 0x45] ++ List.replicate 10 0

theorem test_snapshotSave :
    replyOf .snapshotSaveSound State.reset = .record soundRecordReset ∧
    replyOf .snapshotSaveVideo State.reset = .record videoRecordReset ∧
    replyOf .snapshotSaveInt State.reset = .record intRecordReset := by decide +kernel

/-- Vectors SN4 to SN9: loads of a sound record that completes, and that fails. -/
theorem test_snapshotLoadSound :
    let p1 : List Byte := [0, 0, 0, 1, 1, 0, 0, 0, 0, 0, 0x3E, 0, 0, 0, 0x0F, 0, 0, 0x48, 0, 0, 0, 1, 0, 0, 0, 0, 0,
      1, 1, 0, 0, 0, 8, 0, 0, 0, 0]
    replyOf .snapshotSaveSound (after (.snapshotLoadSound p1) State.reset) = .record p1 ∧
    [soundRecordReset ++ [0], soundRecordReset.take 3, [0, 0, 0, 2] ++ soundRecordReset.drop 4,
      soundRecordReset.set 32 0, soundRecordReset.set 32 0x1F].map (fun d => replyOf (.snapshotLoadSound d) State.reset) =
    [.snapshotError .sound .sf3, .snapshotError .sound .sf1, .snapshotError .sound .sf2,
      .snapshotError .sound (.sf4 .r857c), .snapshotError .sound (.sf4 .r857c)] := by decide +kernel

/-- Vectors SN10 and SN11. -/
theorem test_snapshotLoadVideo :
    replyOf (.snapshotLoadVideo videoRecordReset) State.reset = .completed ∧
    replyOf (.snapshotLoadVideo (videoRecordReset.take 40)) State.reset = .snapshotError .video .sf1 ∧
    replyOf (.snapshotLoadVideo (videoRecordReset.set 42 9)) State.reset = .snapshotError .video (.sf4 .r856d) := by
  decide +kernel

/-- Vectors SN12 and P2's record. -/
theorem test_snapshotLoadInt :
    replyOf (.snapshotLoadInt (intRecordReset.set 6 1)) State.reset = .snapshotError .int (.sf4 .r859c) ∧
    (after (.snapshotLoadInt [0, 0, 0, 1, 4, 1, 0, 0, 0, 0, 0, 0, 0, 0, 3]) configured).intr =
      { Intr.reset with
        level := #v[false, true, false, false], enable := #v[true, false, false, false], onehzCnt := 3 } := by
  decide +kernel

/-- Vectors RS1 to RS3, RS4. -/
theorem test_reset :
    let pending := withIntr
      { Intr.reset with latch := #v[true, false, false, false], enable := #v[true, false, false, false], irq := true }
    let faulted := { configured with clk := { configured.clk with faulted := true, pendingIo := some ⟨true, 0x99, 0x2A⟩ } }
    (after .reset pending).trace = [.irqClear] ∧ replyOf .prIntStatus (after .reset pending) = .byte 0x45 ∧
    replyOf .slotStep faulted = .refused .faulted ∧ (after .reset faulted).clk = Clk.reset := by decide +kernel

/-! ## The renderers, on the example setup of 43_video_renderers.md (vectors RN1 to RN47) -/

/-- The example setup: PAL[i] = 0x10 + i, FIXBIAS 0x1F, border 0x2A, LD1 0x1000, LD2 0x2000, slot 9; the byte at 0x1000
is 0xA5 for the bitmap families and 0xE5 for the character ones. -/
def setup (code : Byte) : State :=
  { State.reset with
    vid := { Vid.reset with
      slot := 9, needLpb := false, linesLeft := 1, ld1 := 0x1000, ld2 := 0x2000, border := 0x2A, fixbias := 0x1F
      lpb := #v[0, 0, 0, 0, 0, 0, 0, 0, 0x10, 0x11, 0x12, 0x13, 0x14, 0x15, 0x16, 0x17] }
    mem := [(0x1000, code), (0x1001, 0x3C), (0x2000, 0x96), (0x2025, 0x5A), (0x2065, 0x5A), (0x20E5, 0x5A)] }

theorem test_render_plain :
    [Instr.border, .sync, .invalid, .attrib].map (fun i => replyOf i (setup 0xA5)) =
    [.group [1, 0x2A], .group [1, 0], .group [1, 0x2A],
     .group [8, 0x15, 0xFA, 0xFA, 0x15, 0xFA, 0x15, 0x15, 0xFA]] ∧
    (after .attrib (setup 0xA5)).vid = { (setup 0xA5).vid with ld1 := 0x1001, ld2 := 0x2001, busLast := 0x96 } := by
  decide +kernel

theorem test_render_pixel :
    [Instr.pixel_2c, .pixel_2c_msb, .pixel_2c_lsb, .pixel_2c_lsb_msb,
      .pixel_4c, .pixel_4c_lsb, .pixel_16c, .pixel_256c].map (fun i => replyOf i (setup 0xA5)) =
    [.group [0x10, 0x11, 0x10, 0x11, 0x10, 0x10, 0x11, 0x10, 0x11, 0x10, 0x10, 0x11, 0x11, 0x11, 0x11, 0x10, 0x10],
     .group [0x10, 0x13, 0x12, 0x13, 0x12, 0x12, 0x13, 0x12, 0x13, 0x10, 0x10, 0x11, 0x11, 0x11, 0x11, 0x10, 0x10],
     .group [0x10, 0x15, 0x14, 0x15, 0x14, 0x14, 0x15, 0x14, 0x15, 0x10, 0x10, 0x11, 0x11, 0x11, 0x11, 0x10, 0x10],
     .group [0x10, 0x17, 0x16, 0x17, 0x16, 0x16, 0x17, 0x16, 0x17, 0x10, 0x10, 0x11, 0x11, 0x11, 0x11, 0x10, 0x10],
     .group [0x08, 0x11, 0x12, 0x11, 0x12, 0x12, 0x12, 0x11, 0x11],
     .group [0x08, 0x15, 0x16, 0x15, 0x16, 0x12, 0x12, 0x11, 0x11],
     .group [0x04, 0x15, 0xFA, 0x16, 0x16],
     .group [0x02, 0xA5, 0x3C]] ∧
    (after .pixel_2c (setup 0xA5)).vid = { (setup 0xA5).vid with ld1 := 0x1002, busLast := 0x3C } := by decide +kernel

theorem test_render_lpixel :
    [Instr.lpixel_2c, .lpixel_2c_msb, .lpixel_2c_lsb, .lpixel_2c_lsb_msb,
      .lpixel_4c, .lpixel_4c_lsb, .lpixel_16c, .lpixel_256c].map (fun i => replyOf i (setup 0xA5)) =
    [.group [0x08, 0x11, 0x10, 0x11, 0x10, 0x10, 0x11, 0x10, 0x11],
     .group [0x08, 0x13, 0x12, 0x13, 0x12, 0x12, 0x13, 0x12, 0x13],
     .group [0x08, 0x15, 0x14, 0x15, 0x14, 0x14, 0x15, 0x14, 0x15],
     .group [0x08, 0x17, 0x16, 0x17, 0x16, 0x16, 0x17, 0x16, 0x17],
     .group [0x04, 0x11, 0x12, 0x11, 0x12],
     .group [0x04, 0x15, 0x16, 0x15, 0x16],
     .group [0x02, 0x15, 0xFA],
     .group [0x01, 0xA5]] ∧
    (after .lpixel_2c (setup 0xA5)).vid = { (setup 0xA5).vid with ld1 := 0x1001, busLast := 0xA5 } := by
  decide +kernel

theorem test_render_ch256 :
    [Instr.ch256_2c, .ch256_2c_a0, .ch256_2c_a1, .ch256_2c_a0_a1,
      .ch256_4c, .ch256_4c_a1, .ch256_16c, .ch256_256c].map (fun i => replyOf i (setup 0xE5)) =
    [.group [0x08, 0x10, 0x11, 0x10, 0x11, 0x11, 0x10, 0x11, 0x10],
     .group [0x08, 0x12, 0x13, 0x12, 0x13, 0x13, 0x12, 0x13, 0x12],
     .group [0x08, 0x14, 0x15, 0x14, 0x15, 0x15, 0x14, 0x15, 0x14],
     .group [0x08, 0x16, 0x17, 0x16, 0x17, 0x17, 0x16, 0x17, 0x16],
     .group [0x04, 0x12, 0x11, 0x12, 0x11],
     .group [0x04, 0x16, 0x15, 0x16, 0x15],
     .group [0x02, 0xFA, 0x15],
     .group [0x01, 0x5A]] ∧
    (after .ch256_2c (setup 0xE5)).vid = { (setup 0xE5).vid with ld1 := 0x1001, busLast := 0x5A } := by decide +kernel

theorem test_render_ch128 :
    [Instr.ch128_2c, .ch128_2c_a0, .ch128_2c_a1, .ch128_2c_a0_a1,
      .ch128_4c, .ch128_4c_a1, .ch128_16c, .ch128_256c].map (fun i => replyOf i (setup 0xE5)) =
    [.group [0x08, 0x10, 0x11, 0x10, 0x11, 0x11, 0x10, 0x11, 0x10],
     .group [0x08, 0x12, 0x13, 0x12, 0x13, 0x13, 0x12, 0x13, 0x12],
     .group [0x08, 0x14, 0x15, 0x14, 0x15, 0x15, 0x14, 0x15, 0x14],
     .group [0x08, 0x16, 0x17, 0x16, 0x17, 0x17, 0x16, 0x17, 0x16],
     .group [0x04, 0x12, 0x11, 0x12, 0x11],
     .group [0x04, 0x16, 0x15, 0x16, 0x15],
     .group [0x02, 0xFA, 0x15],
     .group [0x01, 0x5A]] ∧
    (after .ch128_2c (setup 0xE5)).vid = { (setup 0xE5).vid with ld1 := 0x1001, busLast := 0x5A } := by decide +kernel

theorem test_render_ch64 :
    [Instr.ch64_2c, .ch64_2c_a0, .ch64_2c_a1, .ch64_2c_a0_a1,
      .ch64_4c, .ch64_4c_a1, .ch64_16c, .ch64_256c].map (fun i => replyOf i (setup 0xE5)) =
    [.group [0x08, 0x10, 0x11, 0x10, 0x11, 0x11, 0x10, 0x11, 0x10],
     .group [0x08, 0x12, 0x13, 0x12, 0x13, 0x13, 0x12, 0x13, 0x12],
     .group [0x08, 0x14, 0x15, 0x14, 0x15, 0x15, 0x14, 0x15, 0x14],
     .group [0x08, 0x16, 0x17, 0x16, 0x17, 0x17, 0x16, 0x17, 0x16],
     .group [0x04, 0x12, 0x11, 0x12, 0x11],
     .group [0x04, 0x16, 0x15, 0x16, 0x15],
     .group [0x02, 0xFA, 0x15],
     .group [0x01, 0x5A]] ∧
    (after .ch64_2c (setup 0xE5)).vid = { (setup 0xE5).vid with ld1 := 0x1001, busLast := 0x5A } := by decide +kernel

/-- Vector RN47: past LAST_FETCH_SLOT the bytes are those on the bus, and nothing moves. -/
theorem test_render_floating :
    let s := setup 0xA5
    let f := { s with params := { s.params with lastFetchSlot := 40 }, vid := { s.vid with slot := 45, busLast := 0x3C } }
    after .pixel_2c f = { f with reply := .group [0x10, 0x10, 0x10, 0x11, 0x11, 0x11, 0x11, 0x10, 0x10, 0x10, 0x10,
      0x11, 0x11, 0x11, 0x11, 0x10, 0x10] } := by decide +kernel

/-- Vectors RN48 and RN49: palette indices 8 and 15. -/
theorem test_palette_high :
    ({ Vid.reset with fixbias := 0 }).dec 2 0x02 0 = [0, 0] ∧ ({ Vid.reset with fixbias := 0x1F }).colour 15 = 0xFF := by
  decide +kernel

/-! ## A state and operands that meet the hypotheses of each statement -/

theorem witness_DecodeEncode :
    wellFormed (.configure 255 0xFFFFFFFF 0xFFFFFFFF 0xFFFFFFFF 255) = true ∧ wellFormed (.snapshotLoadInt []) = true ∧
    wellFormed (.snapshotLoadVideo (List.replicate 4294967295 0)) = true := by
  refine ⟨rfl, rfl, ?_⟩
  show decide ((List.replicate 4294967295 (0 : Byte)).length < 4294967296) = true
  rw [List.length_replicate]
  rfl

/-- A packet at each clause of RefusedEncodings; State.reset is not faulted. -/
theorem witness_RefusedEncodings :
    let cls := fun h : Half => (h.extractLsb' 14 2).toNat
    let opcode := fun h : Half => (h.extractLsb' 8 6).toNat
    let imm := fun h : Half => (h.extractLsb' 0 8).toNat
    State.reset.clk.faulted = false ∧ cls 0xC000 = 3 ∧ cls 0x6000 = 1 ∧ (0x6000 : Half).getLsbD 13 = true ∧
    cls 0x8D00 = 2 ∧ opcode 0x8D00 = 0x0D ∧ cls 0x8403 = 2 ∧ opcode 0x8403 = 4 ∧ imm 0x8403 % 4 = 3 ∧
    cls 0x8800 = 2 ∧ opcode 0x8800 = 8 ∧ 256 ≤ (0x100 : Word32).toNat ∧
    cls 0x8903 = 2 ∧ opcode 0x8903 = 9 ∧ opcode 0x8A03 = 10 ∧ 3 ≤ imm 0x8A03 := by decide +kernel

theorem witness_StepRunsDecoded :
    let x := packetOf 0x19 0x2A [] []
    let bad := packetOf 0xC0 0x00 [] []
    let s := { State.reset with hostIn := [.issue x] }
    s.slotOpen = false ∧ s.hostIn = .issue x :: [] ∧ decode x = .ok (.pwBorder 0x2A) ∧
    decode bad = .error .reservedClass ∧ { s with hostIn := [.collab (.poke 1 2)] }.hostIn = .collab (.poke 1 2) :: [] ∧
    State.reset.slotOpen = false ∧ State.reset.hostIn = [] ∧ { s with slotOpen := true }.slotOpen = true ∧
    decodeTableWord 16 0x192A = some (.pwBorder 0x2A) := by decide +kernel

theorem witness_RefusedStates :
    { Clk.reset with faulted := true }.faulted = true ∧ Instr.slotStep ≠ .reset ∧
    (∀ r : Renderer, Instr.slotStep ≠ r.instr) ∧ State.reset.clk.faulted = false ∧
    State.reset.clk.configured = false := by
  refine ⟨rfl, by decide, fun r => ?_, rfl, rfl⟩
  cases r <;> decide

/-- An instruction for each outcome that OutcomeTable speaks of; witness_SlotStepAdvancesOnce has the step that waits. -/
theorem witness_OutcomeTable :
    (∀ r : Renderer, Instr.cpuCycles 255 ≠ r.instr) ∧
    replyOf (.configure 0 0 1 1 0) State.reset = .configError .ce1 ∧
    replyOf (.snapshotLoadSound []) State.reset = .snapshotError .sound .sf1 ∧
    replyOf (.cpuCycles 255) (atCpu (-9223372036854775808)) = .fatal .cpu ∧
    replyOf .cpuEnd State.reset = .refused .notConfigured ∧
    replyOf .prBorder State.reset = .byte 0 ∧ replyOf .snapshotSaveInt State.reset = .record intRecordReset := by
  refine ⟨fun r => ?_, by decide +kernel, by decide +kernel, by decide +kernel, by decide +kernel, by decide +kernel,
    by decide +kernel⟩
  cases r <;> decide

/-- The one hypothesis of SoundWritePeriods, SoundWriteLevels, SoundWriteReg4, SoundWriteReg9, SoundReadBack, InterruptPorts,
Ext2Level, ReservedPorts, VideoRegisters, SoundTickOrder and SnapshotLoadFails. -/
theorem witness_unfaulted : State.reset.clk.faulted = false ∧ configured.clk.faulted = false := by decide +kernel

theorem witness_LatchPersists :
    let s := withIntr { Intr.reset with latch := #v[true, false, false, true] }
    exec (.ext2 true) s = .next { s with reply := .completed } ∧ s.intr.latch[0] = true ∧ s.intr.latch[3] = true := by
  exact ⟨rfl, rfl, rfl⟩

/-- Slots 0, 6 and 7, of a line that starts a block and of one that continues it. -/
theorem witness_SlotReadsLpb :
    State.reset.clk.faulted = false ∧ 9 ≤ State.reset.params.nslot ∧ Vid.reset.slot.toNat = 0 ∧
    Vid.reset.needLpb = true ∧ ({ Vid.reset with slot := 6 }).slot.toNat ≤ 6 ∧
    ({ Vid.reset with slot := 7 }).slot.toNat = 7 ∧
    ({ Vid.reset with slot := 7, needLpb := false, linesLeft := 1 }).needLpb = false := by decide +kernel

/-- Slots 8 and 55 of a line of 57. -/
theorem witness_SlotDisplays :
    State.reset.clk.faulted = false ∧ 8 ≤ ({ Vid.reset with slot := 8 }).slot.toNat ∧
    ({ Vid.reset with slot := 55 }).slot.toNat + 1 ≠ State.reset.params.nslot := by decide +kernel

theorem witness_SlotEndsLine :
    let v := { Vid.reset with slot := 56, needLpb := false, linesLeft := 2 }
    State.reset.clk.faulted = false ∧ 8 ≤ v.slot.toNat ∧ v.slot.toNat + 1 = State.reset.params.nslot := by
  decide +kernel

/-- Slot 8 of a line, and its last slot as n = 48. -/
theorem witness_MarginOutcomes :
    let s := withVid { Vid.reset with slot := 8, needLpb := false, linesLeft := 1 }
    s.params.nslot ≤ 64 ∧ s.vid.slot = 8 ∧ s.vid.displayEn = false ∧ 8 + 48 < s.params.nslot := by decide +kernel

theorem witness_FloatingBus :
    let p := { Config.testParams with lastFetchSlot := 40 }
    p.lastFetchSlot < ({ Vid.reset with slot := 41 }).slot.toNat := by decide +kernel

/-- The clauses of GeneratorSteps on the noise and envelope counts, and on the two boundaries of the ramp. -/
theorem witness_GeneratorSteps :
    ({ Snd.reset with envCnt := 1 }).envCnt ≠ 0 ∧ Snd.reset.envCnt = 0 ∧
    0 ≤ ((({ Snd.reset with envPos := 30, envDir := .up }).envPos.toNat : Int) + Dir.up.toInt) ∧
    (({ Snd.reset with envPos := 30, envDir := .up }).envPos.toNat : Int) + Dir.up.toInt ≤ 31 ∧
    ({ Snd.reset with envPos := 31, envDir := .up }).envPos = 31 ∧ ({ Snd.reset with envDir := .down }).envPos = 0 := by
  decide +kernel

theorem witness_NoisePeriod : 4 ∈ [4, 5, 7, 9, 11, 15, 17] ∧ 0 < 14 ∧ 14 < 2 ^ 4 - 1 := by decide

theorem witness_EnvelopeSequences : Snd.reset.reg[8] = 0 ∧ 63 < 64 := by decide

/-- Silence, MixerLevels, SnapshotRoundTrip: legal parameters, and level registers of 0. -/
theorem witness_Silence :
    State.reset.clk.faulted = false ∧ State.reset.params.legal ∧
    ∀ r : Fin 16, 10 ≤ r.val → State.reset.snd.reg[r] = 0 := by
  refine ⟨rfl, by decide +kernel, by decide +kernel⟩

/-- The three clauses of DividerPeriods, with counts at their ends. -/
theorem witness_DividerPeriods :
    1 ≤ State.reset.params.timerHalf ∧ State.reset.params.timerHalf < 4294967296 ∧ State.reset.intr.timerCnt = 0 ∧
    State.reset.intr.level[0] = true ∧ 1 ≤ State.reset.clk.onehzHalf.toNat ∧ State.reset.intr.onehzCnt = 0 ∧
    State.reset.intr.level[1] = true ∧ State.reset.clk.onehzHalf.toNat ≤ (4294967294 : BitVec 32).toNat ∧
    (4294967294 : BitVec 32).toNat + 1 < 4294967296 := by decide +kernel

/-- Operands at each clause of Configure: zero, a mode past 2, a ratio at 2^56, and the largest and smallest that do. -/
theorem witness_Configure :
    (0 : Word32) = 0 ∧ ¬((1 : Word32) = 0 ∨ (1 : Word32) = 0 ∨ (1 : Word32) = 0) ∧ 2 < (3 : Byte).toNat ∧
    (2 : Byte).toNat ≤ 2 ∧ 2 ^ 56 ≤ (16777216 : Word32).toNat * 2 ^ 32 / (1 : Word32).toNat ∧
    ¬2 ^ 56 ≤ (16777215 : Word32).toNat * 2 ^ 32 / (1 : Word32).toNat ∧
    1 ≤ (1 : Word32).toNat * 2 ^ 32 / (4294967295 : Word32).toNat := by decide +kernel

/-- CpuCharges at both ends of the accumulator, and one cycle past the lower one. -/
theorem witness_CpuCharges :
    configured.clk.faulted = false ∧ configured.clk.configured = true ∧
    -2 ^ 63 ≤ (atCpu (-9223372032559808512)).clk.accCpu - (1 : Byte).toNat * 2 ^ 32 ∧
    (atCpu (-9223372032559808512)).clk.accCpu - (1 : Byte).toNat * 2 ^ 32 < 2 ^ 63 ∧
    (atCpu (-9223372032559808513)).clk.accCpu - (1 : Byte).toNat * 2 ^ 32 < -2 ^ 63 := by decide +kernel

/-- CpuIoAccess: a fatal charge, an access held, one performed; ports 0x80 and 0x9F of the window, 0x7F and 0xA0 beside it.
At acc_cpu = −1 the wait is 2 cycles, and at 3·ONE − 1 it is 1. -/
theorem witness_CpuIoAccess :
    let w := fun x : Int => ((waitCycles (atCpu x) .io 0x80).toNat : Int)
    (-9223372036854775808 : Int) - w (-9223372036854775808) * 2 ^ 32 < -2 ^ 63 ∧
    -2 ^ 63 ≤ -1 - w (-1) * 2 ^ 32 ∧ -1 - w (-1) * 2 ^ 32 < 0 ∧
    0 ≤ 12884901887 - w 12884901887 * 2 ^ 32 ∧ 12884901887 - w 12884901887 * 2 ^ 32 < 2 ^ 63 ∧
    configured.params.portBase.toNat ≤ (0x80 : Byte).toNat ∧ (0x9F : Byte).toNat < configured.params.portBase.toNat + 32 ∧
    ¬configured.params.portBase.toNat ≤ (0x7F : Byte).toNat ∧
    ¬(0xA0 : Byte).toNat < configured.params.portBase.toNat + 32 := by decide +kernel

/-- CpuEnd: an instruction that has charged a cycle, one that has not, and no instruction in progress. -/
theorem witness_CpuEnd :
    configured.clk.faulted = false ∧ configured.clk.configured = true ∧
    ({ configured.clk with inInstr := true, instrCost := 1 }).inInstr = true ∧
    ({ configured.clk with inInstr := true, instrCost := 1 }).instrCost ≠ 0 ∧
    ({ configured.clk with inInstr := true }).instrCost = 0 ∧ configured.clk.inInstr = false := by decide +kernel

/-- SlotStepIdle: a CPU two slots behind, between instructions and with an access held. -/
theorem witness_SlotStepIdle :
    let s := atCpu (-17179869185)
    s.clk.faulted = false ∧ s.clk.configured = true ∧ -2 ^ 32 ≤ s.clk.accSnd ∧ s.clk.accSnd < 0 ∧ s.clk.rSnd < 2 ^ 56 ∧
    -2 ^ 63 ≤ s.clk.accCpu ∧ s.clk.accCpu + s.clk.rCpu < 0 ∧ s.clk.inInstr = false ∧
    ({ s.clk with pendingIo := some ⟨true, 0x99, 0⟩ }).pendingIo ≠ none := by decide +kernel

theorem witness_SlotStepOneInstruction :
    let s : State := { configured with cpuIn := [.event (.cycles 4), .event .fin] }
    s.clk.faulted = false ∧ s.clk.configured = true ∧ -2 ^ 32 ≤ s.clk.accSnd ∧ s.clk.accSnd < 0 ∧ s.clk.rSnd < 2 ^ 56 ∧
    s.clk.accCpu < 0 ∧ s.clk.rCpu < 2 ^ 56 ∧ s.clk.pendingIo = none ∧ s.clk.inInstr = false ∧
    0 ≤ s.clk.accCpu + s.clk.rCpu ∧ (4 : Byte) ≠ 0 ∧ s.clk.accCpu + s.clk.rCpu - (4 : Byte).toNat * 2 ^ 32 < 0 ∧
    s.cpuIn = .event (.cycles 4) :: .event .fin :: [] := by decide +kernel

/-- SlotStepOneInstruction's other clauses: an access due in the next step, a turn of the loop between two instructions and
inside one, its ends at acc_cpu = −1 and in a faulted block; ports 0x80 and 0x9F of the window, and 0x7F and 0xA0 beside it, are in witness_CpuIoAccess. -/
theorem witness_SlotStepOneInstruction_held :
    let s : State := { configured with clk := { configured.clk with inInstr := true, pendingIo := some ⟨true, 0x99, 0x2A⟩ } }
    s.clk.faulted = false ∧ s.clk.configured = true ∧ -2 ^ 32 ≤ s.clk.accSnd ∧ s.clk.accSnd < 0 ∧ s.clk.rSnd < 2 ^ 56 ∧
    s.clk.accCpu < 0 ∧ s.clk.rCpu < 2 ^ 56 ∧ s.clk.pendingIo = some ⟨true, 0x99, 0x2A⟩ ∧
    0 ≤ s.clk.accCpu + s.clk.rCpu ∧ (atCpu 0).clk.pendingIo = none ∧ (atCpu 0).clk.inInstr = false ∧
    0 ≤ (atCpu 0).clk.accCpu ∧ s.clk.inInstr = true ∧ (atCpu 0).clk.faulted = false ∧
    (atCpu (-1)).clk.accCpu < 0 ∧ s.clk.pendingIo ≠ none ∧ (atCpu (-1)).clk.inInstr = false ∧
    ({ s.clk with faulted := true }).faulted = true := by decide +kernel

/-- SlotStepAdvancesOnce: a step that completes, one that waits for the CPU agent, and one that ends in a
FatalAssertion; the agent of the first makes no change of memory. -/
theorem witness_SlotStepAdvancesOnce :
    let low := (atCpu (-9223372036854775808)).clk
    let fatal := { configured with
      clk := { low with inInstr := true }
      cpuIn := [.event (.cycles 255)] }
    configured.clk.faulted = false ∧ configured.clk.configured = true ∧
    replyOf .slotStep (atCpu (-17179869185)) = .completed ∧ (∀ c, CpuInput.collab c ∉ configured.cpuIn) ∧
    replyOf .slotStep configured = .pending ∧ replyOf .slotStep fatal = .fatal .cpu ∧
    (after .slotStep configured).slotOpen = true ∧ (after .slotStep configured).clk.faulted = false := by
  refine ⟨by decide +kernel, by decide +kernel, by decide +kernel, fun c h => ?_, by decide +kernel, by decide +kernel,
    by decide +kernel, by decide +kernel⟩
  exact absurd (show CpuInput.collab c ∈ ([] : List CpuInput) from h) List.not_mem_nil

theorem witness_TickBudget :
    configured.clk.faulted = false ∧ -2 ^ 32 ≤ ({ configured.clk with accSnd := -4294967296 }).accSnd ∧
    configured.clk.accSnd < 0 ∧ configured.clk.rSnd < 2 ^ 56 := by decide +kernel

/-- WaitQuery: a page of a contended segment, and one that is not. -/
theorem witness_WaitQuery :
    configured.clk.faulted = false ∧ configured.clk.configured = true ∧
    Memory.read configured.pageMap 2 ∈ configured.params.contended ∧
    Memory.read configured.pageMap 1 ∉ configured.params.contended ∧
    ({ configured.clk with memMode := .never }).memMode = .never := by decide +kernel

theorem witness_PhaseStep :
    let s := { State.reset with clk := { Clk.reset with rCpu := 72057594037927935, recip := 1024 } }
    1 ≤ configured.clk.rCpu ∧ configured.clk.rCpu < 2 ^ 56 ∧ 1 ≤ configured.params.phaseSteps ∧
    configured.clk.recip = configured.params.phaseSteps * 2 ^ 64 / configured.clk.rCpu ∧ s.clk.rCpu < 2 ^ 56 ∧
    s.clk.recip = s.params.phaseSteps * 2 ^ 64 / s.clk.rCpu := by decide +kernel

theorem witness_SnapshotSave :
    State.reset.clk.faulted = false ∧ State.reset.vid.lineBuf.length < 2 ^ 16 ∧ State.reset.vid.linesLeft < 2 ^ 16 := by
  decide +kernel

/-- The line after slot 8 of an active line meets the invariant too. -/
theorem witness_videoInv :
    VideoInv (withVid
      { Vid.reset with
        slot := 9, needLpb := false, linesLeft := 256, displayEn := true
        lineBuf := [1, 0, 1, 0, 1, 0, 1, 0, 1, 0, 1, 0, 1, 0, 1, 0, 2, 7, 8] }) :=
  ⟨by decide, by decide, by decide, by decide, by decide, by decide, by decide⟩

theorem witness_noiseInv : NoiseInv (withSnd { sndRegs 4 0x60 4 0x60 with lfsr := 0x1FFFF }) :=
  ⟨by decide +kernel, by decide +kernel⟩

theorem witness_irqInv :
    let i : Intr :=
      { Intr.reset with latch := #v[true, false, false, false], enable := #v[true, false, false, false], irq := true
                        timerCnt := 2 }
    IrqInv (withIntr i) ∧ TraceInv { withIntr i with trace := [.irqRequest] } := by
  exact ⟨⟨by decide +kernel, by decide +kernel⟩, rfl⟩

/-- With witness_videoInv, witness_noiseInv and witness_irqInv; the last clause at its boundary, and at vector IN11's count. -/
theorem witness_SnapshotRoundTrip :
    State.reset.clk.faulted = false ∧ State.reset.params.legal ∧
    Intr.reset.onehzCnt.toNat < State.reset.clk.onehzHalf.toNat ∧
    State.reset.clk.onehzHalf.toNat ≤ ({ Intr.reset with onehzCnt := 1 }).onehzCnt.toNat ∧
    configured.clk.onehzHalf.toNat ≤ ({ Intr.reset with onehzCnt := 200000 }).onehzCnt.toNat ∧
    ({ Intr.reset with onehzCnt := 1 }).irq = ({ Intr.reset with onehzCnt := 1 }).wanted ∧
    ({ Intr.reset with onehzCnt := 1 }).timerCnt.toNat < State.reset.params.timerHalf := by decide +kernel

/-- A record at each clause of SnapshotLoadFails. -/
theorem witness_SnapshotLoadFails :
    (soundRecordReset.take 3).length < 4 ∧ ¬([0, 0, 0, 2] : List Byte).take 4 = [0, 0, 0, 1] ∧
    soundRecordReset.take 4 = [0, 0, 0, 1] ∧ (videoRecordReset.take 56).length < 57 ∧
    (soundRecordReset.take 36).length < 37 ∧ (intRecordReset.take 14).length < 15 ∧
    57 + (field16 (videoRecordReset ++ [1]) 55).toNat < (videoRecordReset ++ [1]).length ∧
    (videoRecordReset.set 56 1).length < 57 + (field16 (videoRecordReset.set 56 1) 55).toNat ∧
    37 < (soundRecordReset ++ [0]).length ∧ 15 < (intRecordReset ++ [0]).length ∧
    videoBroken Config.testParams (videoRecordReset.set 42 57) = some .r856a ∧ (videoRecordReset.set 42 57).length = 57 ∧
    soundBroken (soundRecordReset.set 20 0x10) = some .r857a ∧ (soundRecordReset.set 20 0x10).length = 37 ∧
    intBroken Config.testParams Clk.reset (intRecordReset.set 5 0x10) = some .r859a ∧
    (intRecordReset.set 5 0x10).length = 15 := by decide +kernel

/-- PowerOn: legal parameters, and illegal ones of 8 slots. -/
theorem witness_PowerOn :
    Config.testParams.legal ∧ ¬({ Config.testParams with nslot := 8 }).legal ∧
    exec .reset State.reset = .next { State.reset with reply := .completed } := by
  exact ⟨by decide +kernel, by decide +kernel, rfl⟩

/-- The premises of the invariants that every step keeps, at a configured state with a page map. -/
theorem witness_outerInv : OuterInv configured := ⟨by decide +kernel, by decide +kernel, by decide +kernel⟩

theorem witness_accInv : AccInv configured :=
  ⟨by decide +kernel, fun _ => by decide +kernel, by decide +kernel, by decide +kernel⟩

theorem witness_configInv : ConfigInv configured :=
  ⟨fun _ => by decide +kernel, by decide +kernel, fun _ => by decide +kernel, by decide +kernel,
    fun _ => by decide +kernel, by decide +kernel, fun _ => by decide +kernel⟩

/-- The next state of a step; the state itself where there is none. -/
def stepped (s : State) : State :=
  match step s with
  | .next t => t
  | .fault _ => s
  | .refused _ => s

/-- R402: a slot step that waited for the CPU agent goes on when its events come, and completes with one video slot. -/
theorem test_step_goes_on :
    let waits := after .slotStep configured
    stepped { waits with cpuIn := [.event (.cycles 4), .event .fin] } =
      { waits with
        clk := { waits.clk with accCpu := -1, inInstr := false, instrCost := 4, slotCount := 1 }
        vid := (after .videoSlot waits).vid, slotOpen := false, reply := .completed
        agentReplies := [.completed, .completed] } := by decide +kernel

/-- R900, R904: the outcomes returned to the CPU agent: a refused kind, a refused END, and two events that complete. -/
theorem test_agent_outcomes :
    (after .slotStep { configured with
      cpuIn := [.event (.mem 3 0), .event .fin, .event (.cycles 4), .event .fin] }).agentReplies =
      [.refused (.encoding .reservedKind), .refused .zeroCycles, .completed, .completed] := by decide +kernel

/-- The step of a placed instruction, and the idle step of the reset state. -/
theorem test_step_placed :
    step (State.reset.withFetchWord 16 0x192A) = .next { State.reset with vid := { Vid.reset with border := 0x2A }, reply := .completed } ∧
    step State.reset = .next State.reset := by
  exact ⟨rfl, rfl⟩

end Sys2Proof.Tests
end

section
/-! PROOFS. Statements of 00_scope.md: what one step takes as its input (O6), and the parameters and the collaborator's
stores over every step (O55). -/

namespace Sys2Proof.Proofs

open Sys2Proof Sys2Proof.Machine

/-! ## What a step takes (00_scope.md R4) -/

theorem step_of_open {s : State} (h : s.slotOpen = true) : step s = .next (slotRun s) := by
  rw [step, advance, if_pos h]

theorem step_of_closed {s : State} (h : s.slotOpen = false) : step s = hostTurn s := by
  rw [step, advance, if_neg (by simp [h])]

theorem hostTurn_of_nil {s : State} (h : s.hostIn = []) : hostTurn s = .next s := by
  rw [hostTurn, h]

theorem hostTurn_of_issue {s : State} {x : Source} {q : List HostInput} (h : s.hostIn = .issue x :: q) :
    hostTurn s = issue x { s with hostIn := q } := by
  rw [hostTurn, h]

theorem hostTurn_of_collab {s : State} {c : Collab} {q : List HostInput} (h : s.hostIn = .collab c :: q) :
    hostTurn s = .next (collaborate c { s with hostIn := q }) := by
  rw [hostTurn, h]

theorem issue_of_ok {x : Source} {i : Instr} (s : State) (h : decode x = .ok i) : issue x s = exec i s := by
  rw [issue, h]

theorem issue_of_error {x : Source} {e : DecodeError} (s : State) (h : decode x = .error e) :
    issue x s = .next (rejectSource e s) := by
  rw [issue, h]

/-- The table's reading of a number is the decoder's reading of the packet or key it stands for. -/
theorem decodeTableWord_eq_some_iff {nbits w : Nat} {i : Instr} :
    decodeTableWord nbits w = some i ↔ decode (sourceOfNat nbits w) = .ok i := by
  unfold decodeTableWord
  cases decode (sourceOfNat nbits w) <;> simp

/-- A step after an instruction was placed issues it, with the rest of the host's list as it was before. -/
theorem step_withFetchWord (s : State) (nbits w : Nat) :
    step (s.withFetchWord nbits w) = issue (sourceOfNat nbits w) { s with slotOpen := false } :=
  calc step (s.withFetchWord nbits w)
    _ = hostTurn (s.withFetchWord nbits w) := step_of_closed rfl
    _ = issue (sourceOfNat nbits w) { s.withFetchWord nbits w with hostIn := s.hostIn } := hostTurn_of_issue rfl
    _ = issue (sourceOfNat nbits w) { s with slotOpen := false } := rfl

/-- Settles O6, clause by clause from what a step takes. -/
theorem stepRunsDecoded : Obligations.StepRunsDecoded := by
  unfold Obligations.StepRunsDecoded
  refine ⟨fun s x q hclosed hq => ⟨fun i hi => ?ok, fun e he => ?error⟩, fun s c q hclosed hq => ?collab,
    fun s hclosed hq => ?idle, fun s hopen => step_of_open hopen, fun s nbits w i hi => ?placed⟩
  case ok => rw [step_of_closed hclosed, hostTurn_of_issue hq, issue_of_ok _ hi]
  case error => rw [step_of_closed hclosed, hostTurn_of_issue hq, issue_of_error _ he, rejectSource, refuse_eq]
  case collab => rw [step_of_closed hclosed, hostTurn_of_collab hq]
  case idle => rw [step_of_closed hclosed, hostTurn_of_nil hq]
  case placed => rw [step_withFetchWord, issue_of_ok _ (decodeTableWord_eq_some_iff.mp hi)]

/-! ## What the block's own operations leave to the outside

None of them writes the parameters or either store of the collaborator (00_scope.md R8, R9; 20_memory.md R209). -/

/-- The parameters and the collaborator's two stores are the same in s and t. -/
structure SameOuter (s t : State) : Prop where
  params : t.params = s.params
  mem : t.mem = s.mem
  pageMap : t.pageMap = s.pageMap

/-- OuterInv speaks of the parameters and the two stores alone. -/
theorem SameOuter.outerInv {s t : State} (h : SameOuter s t) (hs : OuterInv s) : OuterInv t where
  params := by rw [h.params]; exact hs.params
  mem := by rw [h.mem]; exact hs.mem
  pageMap := by rw [h.pageMap]; exact hs.pageMap

theorem sameOuter_of_units_eq {s t : State} (h : s.units = t.units) : SameOuter s t := by
  simp only [State.units, Prod.mk.injEq] at h
  obtain ⟨hparams, -, -, -, -, hmem, hpageMap⟩ := h
  exact ⟨hparams.symm, hmem.symm, hpageMap.symm⟩

theorem sameOuter_videoSlot (s : State) : SameOuter s (videoSlot s) := by
  rw [videoSlot_writes s]; exact ⟨rfl, rfl, rfl⟩

theorem sameOuter_soundTick (s : State) : SameOuter s (soundTick s) := by
  rw [soundTick_eq]; exact ⟨rfl, rfl, rfl⟩

theorem sameOuter_portWrite (off : BitVec 5) (v : Byte) (s : State) : SameOuter s (portWrite off v s) := by
  rw [portWrite_writes off v s]; exact ⟨rfl, rfl, rfl⟩

theorem sameOuter_ext2 (level : Bool) (s : State) : SameOuter s (ext2 level s) := by
  rw [ext2, intSetLevel_eq]; exact ⟨rfl, rfl, rfl⟩

theorem sameOuter_replaceIntr (i : Intr) (s : State) : SameOuter s (replaceIntr i s) := by
  rw [replaceIntr_eq]; exact ⟨rfl, rfl, rfl⟩

theorem sameOuter_writeRecord (u : Subsystem) (d : List Byte) (s : State) : SameOuter s (writeRecord u d s) :=
  match u with
  | .video => ⟨rfl, rfl, rfl⟩
  | .sound => ⟨rfl, rfl, rfl⟩
  | .int => sameOuter_replaceIntr (intFields d) s

theorem sameOuter_resetSubsystem (u : Subsystem) (s : State) : SameOuter s (resetSubsystem u s) :=
  match u with
  | .video => ⟨rfl, rfl, rfl⟩
  | .sound => ⟨rfl, rfl, rfl⟩
  | .int => sameOuter_replaceIntr Intr.reset s

theorem sameOuter_resetBlock (s : State) : SameOuter s (resetBlock s) := by
  rw [resetBlock_eq]; exact ⟨rfl, rfl, rfl⟩

theorem sameOuter_runRenderer (r : Renderer) (s : State) : SameOuter s (runRenderer r s).2 := by
  rw [runRenderer_writes r s]; exact ⟨rfl, rfl, rfl⟩

/-! ## The collaborator's changes (20_memory.md R209) -/

/-- A change of the collaborator writes one of its two stores, and a write keeps the canonical form. -/
theorem collaborate_outerInv (c : Collab) (s : State) (h : OuterInv s) : OuterInv (collaborate c s) := by
  rcases collaborate_spec c s with ⟨a, v, -, hs⟩ | ⟨page, seg, -, hs⟩
  · rw [hs]; exact ⟨h.params, Memory.write_wf s.mem a v h.mem, h.pageMap⟩
  · rw [hs]; exact ⟨h.params, h.mem, Memory.write_wf s.pageMap page seg h.pageMap⟩

/-- What any address of a canonical store reads as after a write. -/
theorem read_after_write {m : Memory} (h : Memory.wf m) (a b : Half) (v : Byte) :
    Memory.read (Memory.write m a v) b = if b = a then v else Memory.read m b := by
  by_cases hb : b = a
  · rw [if_pos hb, hb, Memory.read_write_self m a v h]
  · rw [if_neg hb, Memory.read_write_of_ne m a b v (Ne.symm hb)]

/-! ## Every step -/

/-- The invariant's ten operations: nine keep the outside as it is, and the collaborator's change keeps the invariant. -/
theorem outerInv_stepClosed : StepClosed OuterInv where
  frame _ _ hunits := (sameOuter_of_units_eq hunits).outerInv
  videoSlot s := (sameOuter_videoSlot s).outerInv
  soundTick s := (sameOuter_soundTick s).outerInv
  portWrite off v s := (sameOuter_portWrite off v s).outerInv
  ext2 level s := (sameOuter_ext2 level s).outerInv
  load u d s _ := (sameOuter_writeRecord u d s).outerInv
  resetSub u s := (sameOuter_resetSubsystem u s).outerInv
  reset s := (sameOuter_resetBlock s).outerInv
  collab := collaborate_outerInv
  render r s := (sameOuter_runRenderer r s).outerInv

/-- Settles O55, by the induction over what a step can do and the stores' read after a write. -/
theorem stepKeepsMemory : Obligations.StepKeepsMemory := by
  unfold Obligations.StepKeepsMemory
  exact ⟨outerInv_stepClosed.of_step,
    fun _ a b v h => ⟨rfl, read_after_write h.mem a b v⟩,
    fun _ page b seg h => ⟨rfl, read_after_write h.pageMap page b seg⟩⟩

end Sys2Proof.Proofs
end

section
/-! PROOFS. The noise register over every step (10_state.md R120; 44_sound.md R724, R725): it is never 0 and has no bit
above the current width (O58). -/

namespace Sys2Proof.Proofs

open Sys2Proof Sys2Proof.Machine

/-! ## Widths, taps and masks -/

/-- A width of 30_encoding.md R321 has its tap of R724 below it, and fits the 17-bit register. -/
theorem noiseTap_between (nw : BitVec 3) :
    0 < noiseTap (noiseWidth nw) ∧ noiseTap (noiseWidth nw) < noiseWidth nw ∧ noiseWidth nw ≤ 17 := by
  revert nw; decide

theorem lfsrMask_toNat {w : Nat} (hw : w ≤ 17) : (lfsrMask w).toNat = 2 ^ w - 1 := by
  have h17 : 2 ^ w ≤ 2 ^ 17 := Nat.pow_le_pow_right (by decide) hw
  rw [lfsrMask, BitVec.toNat_ofNat, Nat.mod_eq_of_lt (by omega)]

theorem lfsrMask_getLsbD {w : Nat} (i : Nat) (hw : w ≤ 17) : (lfsrMask w).getLsbD i = decide (i < w) := by
  rw [BitVec.getLsbD, lfsrMask_toNat hw, Nat.testBit_two_pow_sub_one]

theorem ne_zero_of_getLsbD {x : BitVec 17} {i : Nat} (h : x.getLsbD i = true) : x ≠ 0 := by
  rintro rfl
  simp at h

theorem lfsrMask_ne_zero {w : Nat} (h0 : 0 < w) (hw : w ≤ 17) : lfsrMask w ≠ 0 :=
  ne_zero_of_getLsbD (i := 0) (by rw [lfsrMask_getLsbD 0 hw, decide_eq_true h0])

/-! ## The invariant, as a property of the register -/

/-- The noise register x is legal for the width w: not 0, and no bit above w. -/
structure LfsrOk (w : Nat) (x : BitVec 17) : Prop where
  nonzero : x ≠ 0
  within : x.toNat ≤ (lfsrMask w).toNat

theorem noiseInv_iff (s : State) : NoiseInv s ↔ LfsrOk s.snd.width s.snd.lfsr :=
  ⟨fun h => ⟨h.nonzero, h.width⟩, fun h => ⟨h.nonzero, h.within⟩⟩

/-- NoiseInv speaks of the sound unit alone. -/
theorem noiseInv_of_snd_eq {s t : State} (hsnd : t.snd = s.snd) (h : NoiseInv s) : NoiseInv t := by
  rw [noiseInv_iff] at *
  rwa [hsnd]

/-- A masked value has no bit above the width. -/
theorem and_lfsrMask_within (w : Nat) (x : BitVec 17) : (x &&& lfsrMask w).toNat ≤ (lfsrMask w).toNat := by
  rw [BitVec.toNat_and]; exact Nat.and_le_right

/-- A legal register has a bit that is 1, below the width. -/
theorem LfsrOk.exists_bit {w : Nat} {x : BitVec 17} (h : LfsrOk w x) (hw : w ≤ 17) :
    ∃ i < w, x.getLsbD i = true := by
  by_contra hnone
  push Not at hnone
  refine h.nonzero (BitVec.eq_of_getLsbD_eq fun i _ => ?_)
  refine Eq.trans ?_ BitVec.getLsbD_zero.symm
  by_cases hi : i < w
  · simpa using hnone i hi
  · have hlt : x.toNat < 2 ^ i := by
      have hmask := h.within
      have hpow : 2 ^ w ≤ 2 ^ i := Nat.pow_le_pow_right (by decide) (by omega)
      have hpos : 0 < 2 ^ w := Nat.two_pow_pos w
      rw [lfsrMask_toNat hw] at hmask
      omega
    exact Nat.testBit_lt_two_pow hlt

/-! ## LfsrShift (R724) -/

theorem lfsrNext_getLsbD_zero {w : Nat} (x : BitVec 17) (h0 : 0 < w) (hw : w ≤ 17) :
    (lfsrNext w x).getLsbD 0 = lfsrBit w x := by
  simp [lfsrNext, lfsrMask_getLsbD 0 hw, h0]

theorem lfsrNext_getLsbD_succ {w i : Nat} (x : BitVec 17) (hi : i + 1 < w) (hw : w ≤ 17) :
    (lfsrNext w x).getLsbD (i + 1) = x.getLsbD i := by
  rw [lfsrNext, BitVec.getLsbD_and, lfsrMask_getLsbD (i + 1) hw, BitVec.getLsbD_or, BitVec.getLsbD_shiftLeft]
  simp [hi, show i + 1 < 17 by omega]

/-- A shift keeps the register legal: a 1 below the top bit moves up, and so does a 1 under the tap; where there is
neither, the top bit is 1 and the tap's bit 0, and the new low bit is 1. -/
theorem LfsrOk.next {nw : BitVec 3} {x : BitVec 17} (h : LfsrOk (noiseWidth nw) x) :
    LfsrOk (noiseWidth nw) (lfsrNext (noiseWidth nw) x) := by
  obtain ⟨htap0, htap, hw⟩ := noiseTap_between nw
  obtain ⟨i, hi, hbit⟩ := h.exists_bit hw
  refine ⟨?_, and_lfsrMask_within _ _⟩
  by_cases hlow : i + 1 < noiseWidth nw
  · exact ne_zero_of_getLsbD ((lfsrNext_getLsbD_succ x hlow hw).trans hbit)
  have htop : noiseWidth nw - 1 = i := by omega
  cases htapBit : x.getLsbD (noiseTap (noiseWidth nw) - 1) with
  | true => exact ne_zero_of_getLsbD ((lfsrNext_getLsbD_succ x (by omega) hw).trans htapBit)
  | false =>
    have hnew : lfsrBit (noiseWidth nw) x = true := by rw [lfsrBit, htop, hbit, htapBit]; rfl
    exact ne_zero_of_getLsbD ((lfsrNext_getLsbD_zero x (by omega) hw).trans hnew)

/-! ## The sound unit's operations -/

/-- NoiseWidthChange makes the register legal, whatever it was (R725). -/
theorem noiseWidthChange_lfsrOk (n : Snd) : LfsrOk n.noiseWidthChange.width n.noiseWidthChange.lfsr := by
  obtain ⟨htap0, htap, hw⟩ := noiseTap_between n.nw
  have hlfsr : n.noiseWidthChange.lfsr =
      if n.lfsr &&& lfsrMask n.width = 0 then lfsrMask n.width else n.lfsr &&& lfsrMask n.width := rfl
  have hwidth : n.noiseWidthChange.width = n.width := rfl
  rw [hlfsr, hwidth]
  split
  case isTrue => exact ⟨lfsrMask_ne_zero (by unfold Snd.width; omega) hw, le_rfl⟩
  case isFalse hne => exact ⟨hne, and_lfsrMask_within _ _⟩

/-- Only register 4 selects the width. -/
theorem width_of_reg4_eq {n m : Snd} (h : m.reg[4] = n.reg[4]) : m.width = n.width := by
  rw [Snd.width, Snd.width, Snd.nw, Snd.nw, h]

theorem width_of_reg_eq {n m : Snd} (h : m.reg = n.reg) : m.width = n.width := width_of_reg4_eq (by rw [h])

theorem width_store (n : Snd) (r : Fin 16) (v : Byte) (h4 : r ≠ 4) : (n.store r v).width = n.width := by
  refine width_of_reg4_eq ?_
  rw [Snd.store, Vector.getElem_set_ne]
  exact fun h => h4 (Fin.ext h)

/-- A register write keeps the noise register legal: register 4 makes it so, and no other changes it or the width. -/
theorem write_lfsrOk {n : Snd} (r : Fin 16) (v : Byte) (h : LfsrOk n.width n.lfsr) :
    LfsrOk (n.write r v).width (n.write r v).lfsr := by
  by_cases h4 : r = 4
  · rw [h4, Snd.write_4]; exact noiseWidthChange_lfsrOk _
  have hwidth : (n.write r v).width = (n.store r v).width := width_of_reg_eq (Snd.write_reg n r v)
  have hlfsr : (n.write r v).lfsr = n.lfsr := by
    by_cases h9 : r = 9
    · rw [h9, Snd.write_9]; rfl
    · rw [Snd.write_of_plain n r v h4 h9]
  rw [hwidth, width_store n r v h4, hlfsr]
  exact h

/-- The noise generator's step keeps the register legal: it is shifted, or stays. -/
theorem noiseStep_lfsrOk {n : Snd} (h : LfsrOk n.width n.lfsr) : LfsrOk n.noiseStep.width n.noiseStep.lfsr := by
  rw [width_of_reg_eq n.noiseStep_reg]
  unfold Snd.noiseStep
  split
  · exact h.next
  · exact h

/-- A tick's only change of the noise register is the noise generator's step. -/
theorem tick_lfsrOk {n : Snd} (h : LfsrOk n.width n.lfsr) : LfsrOk n.tick.width n.tick.lfsr := by
  have hstep : LfsrOk _ _ := noiseStep_lfsrOk (n := ((n.toneStep 0).toneStep 1).toneStep 2) h
  rw [Snd.tick, width_of_reg_eq (Snd.envStep_reg _), Snd.envStep_lfsr]
  exact hstep

/-! ## Port writes and loads -/

/-- What a port write does to the sound unit: the offsets below 16 are its registers (30_encoding.md R310). -/
theorem portWrite_snd (off : BitVec 5) (v : Byte) (s : State) :
    (portWrite off v s).snd = if h : off.toNat < 16 then s.snd.write ⟨off.toNat, h⟩ v else s.snd := by
  unfold portWrite
  split
  · rfl
  · split <;> try rfl
    rw [intCtrl, irqUpdate_eq]; rfl

theorem noiseInv_portWrite (off : BitVec 5) (v : Byte) (s : State) (h : NoiseInv s) :
    NoiseInv (portWrite off v s) := by
  rw [noiseInv_iff] at *
  rw [portWrite_snd]
  split
  · exact write_lfsrOk _ v h
  · exact h

/-- A load that passes the checks of R861 has a consistent record. -/
theorem recordBroken_of_loadProblem {u : Subsystem} {d : List Byte} {s : State} (h : loadProblem u d s = none) :
    recordBroken u d s = none := by
  unfold loadProblem at h
  split_ifs at h
  exact Option.map_eq_none_iff.mp h

/-- A consistent sound record holds a legal noise register (46_snapshot.md R857 (c)). -/
theorem soundFields_lfsrOk {d : List Byte} (h : soundBroken d = none) :
    LfsrOk (soundFields d).width (soundFields d).lfsr := by
  have hwidth : (soundFields d).width = recordWidth d := by
    simp [soundFields, Snd.width, Snd.nw, recordWidth, field16x8]
  have hchecks := (firstBroken_none_iff _).mp h
  simp only [List.forall_mem_cons, Bool.and_eq_true, decide_eq_true_eq] at hchecks
  obtain ⟨-, -, ⟨hlow, hhigh⟩, -⟩ := hchecks
  have hlfsr : (soundFields d).lfsr.toNat = (field24 d 30).toNat := by
    have hfit := (lfsrMask (recordWidth d)).isLt
    rw [soundFields, BitVec.toNat_setWidth, Nat.mod_eq_of_lt (by omega)]
  refine ⟨fun hzero => ?_, by rw [hwidth, hlfsr]; exact hhigh⟩
  have hlfsr0 : (soundFields d).lfsr.toNat = 0 := by rw [hzero]; rfl
  omega

theorem noiseInv_writeRecord (u : Subsystem) (d : List Byte) (s : State) (hload : loadProblem u d s = none)
    (h : NoiseInv s) : NoiseInv (writeRecord u d s) :=
  match u with
  | .video => noiseInv_of_snd_eq (s := s) rfl h
  | .sound => (noiseInv_iff _).mpr (soundFields_lfsrOk (recordBroken_of_loadProblem hload))
  | .int => noiseInv_of_snd_eq (by rw [writeRecord, replaceIntr_eq]) h

/-! ## Every step -/

theorem reset_lfsrOk : LfsrOk Snd.reset.width Snd.reset.lfsr := ⟨by decide, by decide⟩

theorem noiseInv_resetSubsystem (u : Subsystem) (s : State) (h : NoiseInv s) : NoiseInv (resetSubsystem u s) :=
  match u with
  | .video => noiseInv_of_snd_eq (s := s) rfl h
  | .sound => (noiseInv_iff _).mpr reset_lfsrOk
  | .int => noiseInv_of_snd_eq (by rw [resetSubsystem, replaceIntr_eq]) h

/-- The invariant's ten operations: a tick, a port write, a load and the two resets write the sound unit, and the
others keep it. -/
theorem noiseInv_stepClosed : StepClosed NoiseInv where
  frame s t hunits := noiseInv_of_snd_eq (congrArg (fun u => u.2.2.1) hunits).symm
  videoSlot s := noiseInv_of_snd_eq (by rw [videoSlot_writes s])
  soundTick s h := (noiseInv_iff _).mpr (by rw [soundTick_eq]; exact tick_lfsrOk ((noiseInv_iff s).mp h))
  portWrite := noiseInv_portWrite
  ext2 level s := noiseInv_of_snd_eq (by rw [ext2, intSetLevel_eq])
  load := noiseInv_writeRecord
  resetSub := noiseInv_resetSubsystem
  reset s _ := (noiseInv_iff _).mpr (by rw [resetBlock_eq]; exact reset_lfsrOk)
  collab c s := noiseInv_of_snd_eq (by rcases collaborate_spec c s with ⟨_, _, -, hs⟩ | ⟨_, _, -, hs⟩ <;> rw [hs])
  render r s := noiseInv_of_snd_eq (by rw [runRenderer_writes r s])

/-- Settles O58, by the induction over what a step can do. -/
theorem stepKeepsNoise : Obligations.StepKeepsNoise := by
  unfold Obligations.StepKeepsNoise
  exact noiseInv_stepClosed.of_step

end Sys2Proof.Proofs
end

section
/-! PROOFS. The accumulators and the configuration over every step (10_state.md R104; 40_scheduler.md R400, R403, R412;
O56). -/

namespace Sys2Proof.Proofs

open Sys2Proof Sys2Proof.Machine

/-! ## The scheduler's part of the state -/

/-- The fields that AccInv and ConfigInv speak of. -/
structure Sched where
  params : Params
  slotOpen : Bool
  accCpu : Int
  accSnd : Int
  rCpu : Nat
  rSnd : Nat
  recip : Nat
  configured : Bool
  onehzHalf : BitVec 32
  faulted : Bool

/-- Those fields of a state. -/
def sched (s : State) : Sched where
  params := s.params
  slotOpen := s.slotOpen
  accCpu := s.clk.accCpu
  accSnd := s.clk.accSnd
  rCpu := s.clk.rCpu
  rSnd := s.clk.rSnd
  recip := s.clk.recip
  configured := s.clk.configured
  onehzHalf := s.clk.onehzHalf
  faulted := s.clk.faulted

theorem slotOpen_of_sched_eq {s t : State} (e : sched t = sched s) : t.slotOpen = s.slotOpen :=
  congrArg Sched.slotOpen e

theorem faulted_of_sched_eq {s t : State} (e : sched t = sched s) : t.clk.faulted = s.clk.faulted :=
  congrArg Sched.faulted e

theorem configured_of_sched_eq {s t : State} (e : sched t = sched s) : t.clk.configured = s.clk.configured :=
  congrArg Sched.configured e

/-! ## What leaves the scheduler's part as it is -/

theorem sched_setVid (s : State) (v : Vid) : sched (s.setVid v) = sched s := rfl

theorem sched_setSnd (s : State) (n : Snd) : sched (s.setSnd n) = sched s := rfl

theorem sched_setReply (s : State) (r : Reply) : sched (s.setReply r) = sched s := rfl

theorem sched_setCpuIn (s : State) (q : List CpuInput) : sched (s.setCpuIn q) = sched s := rfl

theorem sched_refuse (r : RefuseReason) (s : State) : sched (refuse r s) = sched s := rfl

theorem sched_refuseAgent (r : RefuseReason) (s : State) : sched (refuseAgent r s) = sched s := rfl

theorem sched_completeAgent (s : State) : sched (completeAgent s) = sched s := rfl

theorem sched_endInstr (s : State) : sched (endInstr s) = sched s := rfl

theorem sched_countSlot (s : State) : sched (countSlot s) = sched s := rfl

theorem sched_callObservers (s : State) : sched (callObservers s) = sched s := rfl

theorem sched_complete (s : State) : sched (complete s) = sched s := by
  rcases complete_spec s with h | h <;> rw [h]
  rfl

theorem sched_performIo (x : PendingIo) (s : State) : sched (performIo x s) = sched s :=
  (congrArg sched (performIo_writes x s)).trans rfl

theorem sched_soundTick (s : State) : sched (soundTick s) = sched s := (congrArg sched (soundTick_eq s)).trans rfl

theorem sched_videoSlot (s : State) : sched (videoSlot s) = sched s := (congrArg sched (videoSlot_writes s)).trans rfl

theorem sched_videoAdvance (s : State) : sched (videoAdvance s) = sched s :=
  (sched_countSlot _).trans (sched_videoSlot s)

theorem sched_intCtrl (v : Byte) (s : State) : sched (intCtrl v s) = sched s :=
  (congrArg sched (irqUpdate_eq _)).trans rfl

theorem sched_ext2 (level : Bool) (s : State) : sched (ext2 level s) = sched s :=
  (congrArg sched (intSetLevel_eq 3 level s)).trans rfl

theorem sched_runRenderer (r : Renderer) (s : State) : sched (runRenderer r s).2 = sched s :=
  (congrArg sched (runRenderer_writes r s)).trans rfl

theorem sched_replaceIntr (i : Intr) (s : State) : sched (replaceIntr i s) = sched s :=
  (congrArg sched (replaceIntr_eq i s)).trans rfl

theorem sched_collaborate (c : Collab) (s : State) : sched (collaborate c s) = sched s := by
  rcases collaborate_spec c s with ⟨_, _, -, hs⟩ | ⟨_, _, -, hs⟩ <;> rw [hs] <;> rfl

theorem sched_writeRecord (u : Subsystem) (d : List Byte) (s : State) : sched (writeRecord u d s) = sched s :=
  match u with
  | .video => sched_setVid s _
  | .sound => sched_setSnd s _
  | .int => sched_replaceIntr _ s

theorem sched_resetSubsystem (u : Subsystem) (s : State) : sched (resetSubsystem u s) = sched s :=
  match u with
  | .video => sched_setVid s _
  | .sound => sched_setSnd s _
  | .int => sched_replaceIntr _ s

theorem sched_snapshotLoad (u : Subsystem) (d : List Byte) (s : State) : sched (snapshotLoad u d s) = sched s := by
  rcases snapshotLoad_spec u d s with ⟨c, -, h⟩ | ⟨-, h⟩ <;> rw [h]
  · exact (sched_setReply _ _).trans (sched_resetSubsystem u s)
  · exact (sched_complete _).trans (sched_writeRecord u d s)

theorem sched_ensureInstr (s : State) : sched (ensureInstr s) = sched s := by
  rcases ensureInstr_spec s with ⟨-, h⟩ | ⟨-, h⟩ <;> rw [h]
  rfl

theorem sched_releaseHeld (s : State) : sched (releaseHeld s) = sched s := by
  rcases releaseHeld_spec s with ⟨-, h⟩ | ⟨x, -, -, h⟩ | ⟨x, -, -, h⟩ <;> rw [h]
  exact sched_performIo x _

/-! ## The invariant, between transactions and inside a slot step -/

/-- AccInv and ConfigInv with slotOpen read as o: false between two transactions; true inside a slot step, where
acc_cpu may be due whether or not the step has waited yet. -/
structure SchedInv (o : Bool) (s : State) : Prop where
  acc : AccInv (s.setSlotOpen o)
  config : ConfigInv (s.setSlotOpen o)

/-- The two invariants of the state as it is. -/
def Steady (s : State) : Prop := SchedInv s.slotOpen s

theorem steady_iff (s : State) : Steady s ↔ AccInv s ∧ ConfigInv s := ⟨fun h => ⟨h.acc, h.config⟩, fun h => ⟨h.1, h.2⟩⟩

theorem SchedInv.of_sched_eq {o : Bool} {s t : State} (h : SchedInv o s) (e : sched t = sched s) : SchedInv o t := by
  simp only [sched, Sched.mk.injEq] at e
  obtain ⟨hparams, -, hcpu, hsnd, hrCpu, hrSnd, hrecip, hconf, hhalf, hfault⟩ := e
  obtain ⟨⟨_, _, _, _⟩, ⟨_, _, _, _, _, _, _⟩⟩ := h
  constructor <;> constructor <;>
    simp only [State.setSlotOpen_clk, State.setSlotOpen_params, State.setSlotOpen_slotOpen, *] <;> assumption

theorem Steady.of_sched_eq {s t : State} (h : Steady s) (e : sched t = sched s) : Steady t := by
  rw [Steady, slotOpen_of_sched_eq e]
  exact SchedInv.of_sched_eq h e

theorem SchedInv.steady {o : Bool} {s : State} (h : SchedInv o s) : Steady (s.setSlotOpen o) := ⟨h.acc, h.config⟩

theorem SchedInv.accCpu_range {o : Bool} {s : State} (h : SchedInv o s) :
    -9223372036854775808 ≤ s.clk.accCpu ∧ s.clk.accCpu < 9223372036854775808 := (fitsS64_iff _).mp h.acc.cpuFits

/-! ## What writes it -/

section Writes

variable {o : Bool} {s : State}

/-- A new acc_cpu must fit, and be negative where the invariant asks for it. -/
theorem SchedInv.setCpu (h : SchedInv o s) {x : Int} (hfits : fitsS64 x = true)
    (hneg : o = false ∨ s.clk.faulted = true → x < 0) : SchedInv o (s.setClk { s.clk with accCpu := x }) where
  acc := { h.acc with cpuFits := hfits, cpuNegative := hneg }
  config := { h.config with }

/-- A new acc_snd must lie in −ONE .. −1 (R403). -/
theorem SchedInv.setSnd (h : SchedInv o s) {x : Int} (hlow : -one ≤ x) (hneg : x < 0) :
    SchedInv o (s.setClk { s.clk with accSnd := x }) where
  acc := { h.acc with sndLow := hlow, sndNegative := hneg }
  config := { h.config with }

theorem SchedInv.raiseFatal (h : SchedInv o s) (a : Accumulator) (hneg : s.clk.accCpu < 0) :
    SchedInv o (raiseFatal a s) where
  acc := { h.acc with cpuNegative := fun _ => hneg }
  config := { h.config with }

/-- The start of a slot step, in a configured block. -/
theorem SchedInv.openSlot (h : SchedInv false s) (hc : s.clk.configured = true) : SchedInv true s where
  acc := { h.acc with cpuNegative := fun _ => h.acc.cpuNegative (.inl rfl) }
  config := { h.config with openConfigured := fun _ => hc }

/-- The end of a slot step, with the CPU not due. -/
theorem SchedInv.closeSlot (h : SchedInv true s) (hneg : s.clk.accCpu < 0) : SchedInv false s where
  acc := { h.acc with cpuNegative := fun _ => hneg }
  config := { h.config with openConfigured := nofun }

end Writes

/-! ## CPU events (R406, R407, R409) -/

/-- A charge only lowers acc_cpu; where it does not fit, it has left the range at the lower end, from below 0 (R412). -/
theorem SchedInv.charge {o : Bool} {s : State} (n : Byte) (hf : s.clk.faulted = false) (h : SchedInv o s) :
    SchedInv o (charge n s) := by
  have hcost : 0 ≤ n.toNat * one ∧ n.toNat * one < 256 * one := by
    have hn := n.isLt
    simp only [one]; omega
  rcases charge_spec n s hf with ⟨hfits, e⟩ | ⟨hfits, e⟩ <;> rw [e]
  · refine (h.setCpu hfits fun hq => ?_).of_sched_eq rfl
    have hneg : s.clk.accCpu < 0 := h.acc.cpuNegative hq
    omega
  · refine h.raiseFatal .cpu ?_
    have hrange := h.accCpu_range
    have hout : ¬(-9223372036854775808 ≤ s.clk.accCpu - n.toNat * one ∧
        s.clk.accCpu - n.toNat * one < 9223372036854775808) := by
      rw [← fitsS64_iff, hfits]; decide
    simp only [one] at *
    omega

theorem charge_slotOpen {s : State} (n : Byte) (hf : s.clk.faulted = false) : (charge n s).slotOpen = s.slotOpen := by
  rcases charge_spec n s hf with ⟨-, e⟩ | ⟨-, e⟩ <;> rw [e] <;> rfl

theorem Steady.charge {s : State} (n : Byte) (hf : s.clk.faulted = false) (h : Steady s) : Steady (charge n s) := by
  rw [Steady, charge_slotOpen n hf]
  exact SchedInv.charge n hf h

/-- To the scheduler, an I/O event is the charge of its wait. -/
theorem sched_cpuIo (x : PendingIo) (s : State) : sched (cpuIo x s) = sched (charge (ioWait s) s) := by
  unfold cpuIo unlessFatal
  split
  · rfl
  · dsimp only
    split
    · rfl
    · exact sched_performIo x _

theorem SchedInv.cpuIo {o : Bool} {s : State} (x : PendingIo) (hf : s.clk.faulted = false) (h : SchedInv o s) :
    SchedInv o (cpuIo x s) := (h.charge (ioWait s) hf).of_sched_eq (sched_cpuIo x s)

/-- An event the host issues, after the start of its instruction. -/
theorem Steady.hostEvent {s : State} {f : State → State} (hf : s.clk.faulted = false) (h : Steady s)
    (hcharge : ∀ t, ∃ n, sched (f t) = sched (Machine.charge n t)) : Steady (complete (f (ensureInstr s))) := by
  obtain ⟨n, hn⟩ := hcharge (ensureInstr s)
  have hstart := sched_ensureInstr s
  have hrun : (ensureInstr s).clk.faulted = false := (faulted_of_sched_eq hstart).trans hf
  exact ((h.of_sched_eq hstart).charge n hrun).of_sched_eq ((sched_complete _).trans hn)

/-! ## CpuRun (R404) -/

theorem SchedInv.cpuEvent {o : Bool} {s : State} (e : CpuEvent) (hf : s.clk.faulted = false) (h : SchedInv o s) :
    SchedInv o (cpuEvent e s) := by
  cases e with
  | cycles n => exact (h.charge n hf).of_sched_eq (sched_completeAgent _)
  | mem kind a =>
    unfold Machine.cpuEvent
    dsimp only
    split
    · exact (h.charge (waitCycles s .fetch a) hf).of_sched_eq (sched_completeAgent _)
    · exact (h.charge (waitCycles s .read a) hf).of_sched_eq (sched_completeAgent _)
    · exact (h.charge (waitCycles s .write a) hf).of_sched_eq (sched_completeAgent _)
    · exact h.of_sched_eq (sched_refuseAgent _ s)
  | io write port data => exact (h.cpuIo (ioAccess write port data) hf).of_sched_eq (sched_completeAgent _)
  | fin =>
    unfold Machine.cpuEvent
    dsimp only
    split
    · exact h.of_sched_eq (sched_refuseAgent _ s)
    · exact h.of_sched_eq ((sched_completeAgent _).trans (sched_endInstr s))

theorem SchedInv.cpuInput {o : Bool} {s : State} (i : CpuInput) (hf : s.clk.faulted = false) (h : SchedInv o s) :
    SchedInv o (cpuInput i s) :=
  match i with
  | .event e => h.cpuEvent e hf
  | .collab c => h.of_sched_eq (sched_collaborate c s)

/-- What holds at the end of a turn of CpuRun: the CPU is not due where its work has ended, and the block is not faulted
where an event is asked for. -/
structure TurnInv (x : Turn × State) : Prop where
  slot : SchedInv true x.2
  ended : x.1 ≠ .wants → x.2.clk.accCpu < 0
  running : x.1 = .wants → x.2.clk.faulted = false

theorem TurnInv.setCpuIn {x : Turn × State} (h : TurnInv x) (q : List CpuInput) : TurnInv (x.1, x.2.setCpuIn q) where
  slot := h.slot.of_sched_eq (sched_setCpuIn _ q)
  ended := h.ended
  running := h.running

/-- An access is still held only where it lies beyond the slot. -/
theorem releaseHeld_accCpu {s : State} (h : (releaseHeld s).clk.pendingIo.isSome = true) :
    (releaseHeld s).clk.accCpu < 0 := by
  rcases releaseHeld_spec s with ⟨hnone, e⟩ | ⟨x, -, hneg, e⟩ | ⟨x, -, -, e⟩
  · rw [e, hnone] at h
    exact absurd h Bool.false_ne_true
  · rw [e]; exact hneg
  · rw [e, performIo_clk] at h
    exact absurd h Bool.false_ne_true

theorem cpuTurn_turnInv {s : State} (h : SchedInv true s) : TurnInv (cpuTurn s) := by
  unfold cpuTurn
  split
  case isTrue hf => exact ⟨h, fun _ => h.acc.cpuNegative (.inr hf), nofun⟩
  case isFalse hf =>
    have hrel : SchedInv true (releaseHeld s) := h.of_sched_eq (sched_releaseHeld s)
    have hrun : (releaseHeld s).clk.faulted = false :=
      (faulted_of_sched_eq (sched_releaseHeld s)).trans (Bool.eq_false_of_not_eq_true hf)
    rcases cpuDue_spec (releaseHeld s) with ⟨hheld, e⟩ | ⟨-, -, e⟩ | ⟨-, -, -, e⟩ | ⟨-, -, hneg, e⟩ <;> rw [e]
    · exact ⟨hrel, fun _ => releaseHeld_accCpu hheld, nofun⟩
    · exact ⟨hrel, nofun, fun _ => hrun⟩
    · exact ⟨hrel.of_sched_eq rfl, nofun, fun _ => hrun⟩
    · exact ⟨hrel, fun _ => hneg, nofun⟩

theorem cpuRun_turnInv (q : List CpuInput) {s : State} (h : SchedInv true s) : TurnInv (cpuRun q s) := by
  induction q generalizing s with
  | nil => exact (cpuTurn_turnInv h).setCpuIn []
  | cons i q ih =>
    have hturn := cpuTurn_turnInv h
    have hkeep := hturn.setCpuIn (i :: q)
    unfold cpuRun
    cases hend : (cpuTurn s).1 with
    | wants => exact ih (hturn.slot.cpuInput i (hturn.running hend))
    | done => rwa [hend] at hkeep
    | stopped => rwa [hend] at hkeep

/-- A slot step closes with the CPU not due, or waits for the CPU agent with the slot open. -/
theorem slotFinish_steady {x : Turn × State} (h : TurnInv x) : Steady (slotFinish x) := by
  obtain ⟨turn, s⟩ := x
  cases turn with
  | done =>
    have hclosed : Steady (s.setSlotOpen false) := (h.slot.closeSlot (h.ended nofun)).steady
    exact hclosed.of_sched_eq ((sched_complete _).trans (sched_videoAdvance _))
  | stopped => exact (h.slot.closeSlot (h.ended nofun)).steady
  | wants => exact h.slot.steady.of_sched_eq (sched_setReply _ _)

theorem slotRun_steady {s : State} (h : SchedInv true s) : Steady (slotRun s) :=
  slotFinish_steady (cpuRun_turnInv s.cpuIn h)

/-! ## The sound catch-up (R403) -/

/-- One round of the loop, where a tick is due: the tick, and acc_snd falls by ONE. -/
theorem soundLoop_succ_of_due {s : State} (n : Nat) (hf : s.clk.faulted = false) (hdue : 0 ≤ s.clk.accSnd)
    (hfits : fitsS64 s.clk.accSnd = true) :
    soundLoop (n + 1) s = soundLoop n ((soundTick s).setClk { s.clk with accSnd := s.clk.accSnd - one }) := by
  have hpay : paySnd (soundTick s) = (soundTick s).setClk { s.clk with accSnd := s.clk.accSnd - one } := by
    rw [paySnd_of_due, soundTick_clk] <;> rwa [soundTick_clk]
  rw [soundLoop, if_pos hdue, unlessFatal_of_running _ (by rw [hpay]; exact hf), hpay]

/-- The loop leaves acc_snd in −ONE .. −1, where it has rounds enough. -/
theorem soundLoop_accSnd (n : Nat) {s : State} (hf : s.clk.faulted = false) (hfits : fitsS64 s.clk.accSnd = true)
    (hlow : -one ≤ s.clk.accSnd) (hrounds : s.clk.accSnd < n * one) :
    -one ≤ (soundLoop n s).clk.accSnd ∧ (soundLoop n s).clk.accSnd < 0 := by
  induction n generalizing s with
  | zero => exact ⟨hlow, by simpa [soundLoop] using hrounds⟩
  | succ n ih =>
    by_cases hdue : 0 ≤ s.clk.accSnd
    · rw [soundLoop_succ_of_due n hf hdue hfits]
      have hrange := (fitsS64_iff _).mp hfits
      simp only [one] at *
      refine ih hf ?_ ?_ ?_ <;> simp only [fitsS64_iff, State.setClk_clk] <;> omega
    · rw [soundLoop, if_neg hdue]
      exact ⟨hlow, by omega⟩

/-- SoundCatchUp's loop has rounds enough (DEDUCED, log 21). -/
theorem lt_ticksDue_mul_one (acc : Int) : acc < ticksDue acc * one := by
  unfold ticksDue
  split <;> simp only [one] <;> omega

/-- To the scheduler, a catch-up writes acc_snd alone, and leaves it in −ONE .. −1 (R403). -/
theorem soundCatchUp_sched {o : Bool} {s : State} (hf : s.clk.faulted = false) (h : SchedInv o s) :
    ∃ x, -one ≤ x ∧ x < 0 ∧ sched (soundCatchUp s) = sched (s.setClk { s.clk with accSnd := x }) := by
  have hlow : -one ≤ s.clk.accSnd := h.acc.sndLow
  have hneg : s.clk.accSnd < 0 := h.acc.sndNegative
  have hratio : s.clk.rSnd < 72057594037927936 := h.config.rSndHigh
  have hfits : fitsS64 (s.clk.accSnd + s.clk.rSnd) = true := by
    rw [fitsS64_iff]; simp only [one] at *; omega
  have hcatch : soundCatchUp s = soundLoop (ticksDue (s.clk.accSnd + s.clk.rSnd))
      (s.setClk { s.clk with accSnd := s.clk.accSnd + s.clk.rSnd }) := by
    rw [soundCatchUp, updateSnd, if_pos hfits]
    exact unlessFatal_of_running _ hf
  obtain ⟨hwrites, -⟩ := soundLoop_writes (ticksDue (s.clk.accSnd + s.clk.rSnd))
    (s.setClk { s.clk with accSnd := s.clk.accSnd + s.clk.rSnd }) hf hfits
  obtain ⟨hlow', hneg'⟩ := soundLoop_accSnd (s := s.setClk { s.clk with accSnd := s.clk.accSnd + s.clk.rSnd })
    _ hf hfits (by simp only [State.setClk_clk]; omega) (lt_ticksDue_mul_one _)
  exact ⟨_, hlow', hneg', by rw [hcatch]; exact (congrArg sched hwrites).trans rfl⟩

/-! ## SLOT_STEP (R402) -/

/-- The CPU budget fits, and the CPU's work goes on from it with the slot open. -/
theorem slotWork_steady {s : State} (h : SchedInv false s) (hf : s.clk.faulted = false)
    (hc : s.clk.configured = true) : Steady (unlessFatal (cpuBudget s) slotRun) := by
  have hlow := h.accCpu_range.1
  have hneg : s.clk.accCpu < 0 := h.acc.cpuNegative (.inl rfl)
  have hratio : s.clk.rCpu < 72057594037927936 := h.config.rCpuHigh
  have hfits : fitsS64 (s.clk.accCpu + s.clk.rCpu) = true := by
    rw [fitsS64_iff]; omega
  have hrun : (s.setClk { s.clk with accCpu := s.clk.accCpu + s.clk.rCpu }).clk.faulted = false := hf
  rw [cpuBudget, updateCpu, if_pos hfits, unlessFatal_of_running _ hrun]
  exact slotRun_steady ((h.openSlot hc).setCpu hfits (by simp [hf]))

theorem slotStep_steady {s : State} (h : SchedInv false s) (hf : s.clk.faulted = false)
    (hc : s.clk.configured = true) : Steady (slotStep s) := by
  obtain ⟨x, hlow, hneg, hsched⟩ := soundCatchUp_sched (s := callObservers s) hf (h.of_sched_eq (sched_callObservers s))
  have hinv : SchedInv false (soundCatchUp (callObservers s)) := (h.setSnd hlow hneg).of_sched_eq hsched
  have hrun : (soundCatchUp (callObservers s)).clk.faulted = false := (faulted_of_sched_eq hsched).trans hf
  have hconf : (soundCatchUp (callObservers s)).clk.configured = true := (configured_of_sched_eq hsched).trans hc
  rw [slotStep, unlessFatal_of_running _ hrun]
  exact slotWork_steady hinv hrun hconf

/-! ## CONFIGURE and RESET (R400; 70_reset_and_hazards.md R1000) -/

/-- The ratios that pass CONFIGURE's checks lie in 1 .. 2^56 − 1 (R400). -/
theorem ratio_bounds_of_configProblem {m : Byte} {fCpu fSlot fSnd : Word32}
    (h : configProblem m fCpu fSlot fSnd = none) :
    (1 ≤ ratio fCpu fSlot ∧ ratio fCpu fSlot < 72057594037927936) ∧
    (1 ≤ ratio fSnd fSlot ∧ ratio fSnd fSlot < 72057594037927936) := by
  unfold configProblem at h
  split_ifs at h
  omega

theorem onehzHalf_pos (k : Clk) (p : Params) (m : Byte) (fCpu fSlot fSnd : Word32) (nwait : Byte) :
    1 ≤ (k.configure p m fCpu fSlot fSnd nwait).onehzHalf.toNat := by
  have hfSnd := fSnd.isLt
  simp only [Clk.configure]
  split
  · decide
  · rw [BitVec.toNat_ofNat]; omega

theorem configure_steady {m : Byte} {fCpu fSlot fSnd : Word32} {nwait : Byte} {s : State} (h : Steady s) :
    Steady (configure m fCpu fSlot fSnd nwait s) := by
  unfold configure
  split
  case h_1 => exact h.of_sched_eq (sched_setReply s _)
  case h_2 hnone =>
    obtain ⟨⟨hcpu1, hcpu2⟩, hsnd1, hsnd2⟩ := ratio_bounds_of_configProblem hnone
    refine Steady.of_sched_eq ?_ (sched_complete _)
    exact ⟨{ h.acc with },
      ⟨fun _ => hcpu1, hcpu2, fun _ => hsnd1, hsnd2, fun _ => rfl, onehzHalf_pos _ _ _ _ _ _ _, fun _ => rfl⟩⟩

/-- The reset values of R102 meet the invariants, whatever the parameters. -/
theorem powerOn_steady (p : Params) : Steady (State.powerOn p) where
  acc := {
    cpuFits := (by decide : fitsS64 Clk.reset.accCpu = true)
    cpuNegative := fun _ => (by decide : Clk.reset.accCpu < 0)
    sndLow := (by decide : -one ≤ Clk.reset.accSnd)
    sndNegative := (by decide : Clk.reset.accSnd < 0) }
  config := {
    rCpuLow := nofun
    rCpuHigh := (by decide : Clk.reset.rCpu < 72057594037927936)
    rSndLow := nofun
    rSndHigh := (by decide : Clk.reset.rSnd < 72057594037927936)
    recip := nofun
    onehzHalf := (by decide : 1 ≤ Clk.reset.onehzHalf.toNat)
    openConfigured := nofun }

theorem resetBlock_steady (s : State) : Steady (resetBlock s) :=
  (powerOn_steady s.params).of_sched_eq ((congrArg sched (resetBlock_eq s)).trans rfl)

/-! ## Every transaction -/

section Outcomes

variable {f : State → State} {s : State}

theorem next_accept_steady (h : Steady s) (hf : s.clk.faulted = false → Steady (f s)) : Next (accept f s) Steady := by
  cases hfault : s.clk.faulted with
  | true => rw [accept_of_faulted f hfault]; exact h.of_sched_eq (sched_refuse _ s)
  | false => rw [accept_of_running f hfault]; exact hf hfault

theorem next_acceptConfigured_steady (h : Steady s)
    (hf : s.clk.faulted = false → s.clk.configured = true → Steady (f s)) : Next (acceptConfigured f s) Steady := by
  refine next_accept_steady h fun hfault => ?_
  split
  case isTrue hc => exact hf hfault hc
  case isFalse => exact h.of_sched_eq (sched_refuse _ s)

theorem next_perform_steady (h : Steady s) (hf : sched (f s) = sched s) : Next (perform f s) Steady :=
  next_accept_steady h fun _ => h.of_sched_eq ((sched_complete _).trans hf)

theorem next_answerByte_steady (f : State → Byte) (h : Steady s) : Next (answerByte f s) Steady :=
  next_accept_steady h fun _ => h.of_sched_eq (sched_setReply s _)

theorem next_save_steady (f : State → List Byte) (h : Steady s) :
    Next (accept (fun s => s.setReply (.record (f s))) s) Steady :=
  next_accept_steady h fun _ => h.of_sched_eq (sched_setReply s _)

theorem next_hostEvent_steady (h : Steady s) (hcharge : ∀ t, ∃ n, sched (f t) = sched (charge n t)) :
    Next (acceptConfigured (fun s => complete (f (ensureInstr s))) s) Steady :=
  next_acceptConfigured_steady h fun hf _ => h.hostEvent hf hcharge

theorem next_waitQuery_steady (k : AccessKind) (a : Half) (h : Steady s) : Next (waitQuery k a s) Steady :=
  next_acceptConfigured_steady h fun _ _ => h.of_sched_eq (sched_setReply s _)

theorem next_returnGroup_steady (r : Renderer) (h : Steady s) : Next (returnGroup (runRenderer r s)) Steady :=
  h.of_sched_eq ((sched_setReply _ _).trans (sched_runRenderer r s))

theorem next_cpuEnd_steady (h : Steady s) : Next (execCpuEnd s) Steady := by
  refine next_acceptConfigured_steady h fun _ _ => ?_
  split
  · exact h.of_sched_eq (sched_refuse _ s)
  · exact h.of_sched_eq (((sched_complete _).trans (sched_endInstr _)).trans (sched_ensureInstr s))

end Outcomes

theorem exec_renderer (r : Renderer) (s : State) : exec r.instr s = returnGroup (runRenderer r s) := by
  cases r <;> rfl

/-- Only a renderer is encoded as a render key (30_encoding.md R340). -/
theorem eq_renderer_of_encode_key {i : Instr} {k : BitVec 10} (h : encode i = .key k) :
    ∃ r : Renderer, i = r.instr := by
  refine ⟨decodeKey k, ?_⟩
  cases i <;> cases h <;> rfl

/-- A transaction that is no renderer keeps the two invariants, by its kind: SLOT_STEP, CONFIGURE and RESET; the CPU
events; the changes of the other units; the register writes; the reads, saves and queries. -/
theorem exec_packet_steady {i : Instr} {p : Packet} {s : State} (hpacket : encode i = .packet p) (h : Steady s)
    (hclosed : s.slotOpen = false) : Next (exec i s) Steady := by
  cases i
  case slotStep =>
    have hbetween : SchedInv false s := by rwa [Steady, hclosed] at h
    exact next_acceptConfigured_steady h (slotStep_steady hbetween)
  case configure => exact next_accept_steady h fun _ => configure_steady h
  case reset => exact (resetBlock_steady s).of_sched_eq (sched_complete _)
  case cpuCycles n => exact next_hostEvent_steady (f := cpuCycles n) h fun _ => ⟨n, rfl⟩
  case cpuMemFetch a => exact next_hostEvent_steady (f := cpuMem .fetch a) h fun t => ⟨waitCycles t .fetch a, rfl⟩
  case cpuMemRead a => exact next_hostEvent_steady (f := cpuMem .read a) h fun t => ⟨waitCycles t .read a, rfl⟩
  case cpuMemWrite a => exact next_hostEvent_steady (f := cpuMem .write a) h fun t => ⟨waitCycles t .write a, rfl⟩
  case cpuIoRead port =>
    exact next_hostEvent_steady (f := cpuIo (ioAccess false port 0)) h fun t => ⟨ioWait t, sched_cpuIo _ t⟩
  case cpuIoWrite port data =>
    exact next_hostEvent_steady (f := cpuIo (ioAccess true port data)) h fun t => ⟨ioWait t, sched_cpuIo _ t⟩
  case cpuEnd => exact next_cpuEnd_steady h
  case soundTick => exact next_perform_steady h (sched_soundTick s)
  case videoSlot => exact next_perform_steady h (sched_videoSlot s)
  case ext2 level => exact next_perform_steady h (sched_ext2 level s)
  case pwIntCtrl v => exact next_perform_steady h (sched_intCtrl v s)
  case snapshotLoadVideo d => exact next_accept_steady h fun _ => h.of_sched_eq (sched_snapshotLoad .video d s)
  case snapshotLoadSound d => exact next_accept_steady h fun _ => h.of_sched_eq (sched_snapshotLoad .sound d s)
  case snapshotLoadInt d => exact next_accept_steady h fun _ => h.of_sched_eq (sched_snapshotLoad .int d s)
  case pwSndR0 | pwSndR1 | pwSndR2 | pwSndR3 | pwSndR4 | pwSndR5 | pwSndR6 | pwSndR7 | pwSndR8 | pwSndR9 | pwSndR10 |
    pwSndR11 | pwSndR12 | pwSndR13 | pwSndR14 | pwSndR15 => exact next_perform_steady h (sched_setSnd s _)
  case pwFixbias | pwBorder | pwLptLo | pwLptHi => exact next_perform_steady h (sched_setVid s _)
  case pwReserved11 | pwReserved12 | pwReserved13 | pwReserved14 | pwReserved15 | pwReserved16 | pwReserved17 |
    pwReserved1C | pwReserved1D | pwReserved1E | pwReserved1F => exact next_perform_steady h rfl
  case prFixbias => exact next_answerByte_steady (fun s => s.vid.fixbias) h
  case prBorder => exact next_answerByte_steady (fun s => s.vid.border) h
  case prLptLo => exact next_answerByte_steady (fun s => s.vid.lptLo) h
  case prLptHi => exact next_answerByte_steady (fun s => s.vid.lptHi) h
  case prSndR0 | prSndR1 | prSndR2 | prSndR3 | prSndR4 | prSndR5 | prSndR6 | prSndR7 | prSndR8 | prSndR9 |
    prSndR10 | prSndR11 | prSndR12 | prSndR13 | prSndR14 | prSndR15 | prIntStatus | prReserved11 | prReserved12 |
    prReserved13 | prReserved14 | prReserved15 | prReserved16 | prReserved17 | prReserved1C | prReserved1D |
    prReserved1E | prReserved1F => exact next_answerByte_steady _ h
  case snapshotSaveVideo => exact next_save_steady (fun s => videoRecord s.vid) h
  case snapshotSaveSound => exact next_save_steady (fun s => soundRecord s.snd) h
  case snapshotSaveInt => exact next_save_steady (fun s => intRecord s.intr) h
  case waitQueryFetch | waitQueryRead | waitQueryWrite | waitQueryIo => exact next_waitQuery_steady _ _ h
  all_goals cases hpacket

theorem exec_steady (i : Instr) {s : State} (h : Steady s) (hclosed : s.slotOpen = false) :
    Next (exec i s) Steady := by
  cases hcode : encode i with
  | packet p => exact exec_packet_steady hcode h hclosed
  | key k =>
    obtain ⟨r, rfl⟩ := eq_renderer_of_encode_key hcode
    rw [exec_renderer]
    exact next_returnGroup_steady r h

/-! ## Every step -/

theorem next_mono {o : Host.Outcome State Fault Refusal} {P Q : State → Prop} (h : Next o P) (hPQ : ∀ t, P t → Q t) :
    Next o Q :=
  match o, h with
  | .next t, h => hPQ t h

theorem issue_steady (x : Source) {s : State} (h : Steady s) (hclosed : s.slotOpen = false) :
    Next (issue x s) Steady := by
  unfold issue
  split
  · exact exec_steady _ h hclosed
  · exact h.of_sched_eq (sched_refuse _ s)

theorem step_steady {s : State} (h : Steady s) : Next (step s) Steady := by
  cases hopen : s.slotOpen with
  | true =>
    rw [step_of_open hopen]
    rw [Steady, hopen] at h
    exact slotRun_steady h
  | false =>
    rw [step_of_closed hopen]
    cases hq : s.hostIn with
    | nil => rw [hostTurn_of_nil hq]; exact h
    | cons x q =>
      have hrest : Steady { s with hostIn := q } := h.of_sched_eq rfl
      cases x with
      | issue x => rw [hostTurn_of_issue hq]; exact issue_steady x hrest hopen
      | collab c => rw [hostTurn_of_collab hq]; exact hrest.of_sched_eq (sched_collaborate c _)

/-- Settles O56: the two invariants are what a step keeps, with a slot step's inside read with the slot open. -/
theorem stepKeepsScheduler : Obligations.StepKeepsScheduler := by
  unfold Obligations.StepKeepsScheduler
  intro s hacc hconfig
  exact next_mono (step_steady ((steady_iff s).mpr ⟨hacc, hconfig⟩)) fun t => (steady_iff t).mp

end Sys2Proof.Proofs
end

section
/-! PROOFS. Statements of 30_encoding.md on the encoding: the render-key table (R340, R341; O2), the packets that have a
meaning (R300 to R304, R310; O1, O4, O5), and the packets that have none (R360; O3). -/

namespace Sys2Proof.Proofs

open Sys2Proof Sys2Proof.Machine

/-! ## Render keys (R340, R341) -/

/-- The key of an active slot, from the fields that the decoder reads after ACTIVE. -/
def activeKey (vm : BitVec 3) (cm : BitVec 2) (lsb msb a0 a1 : Bool) : BitVec 10 :=
  BitVec.ofNat 10
    (512 + 64 * vm.toNat + 16 * cm.toNat + 8 * lsb.toNat + 4 * msb.toNat + 2 * a0.toNat + a1.toNat)

theorem eq_activeKey {k : BitVec 10} (h : k.getLsbD 9 = true) :
    k = activeKey (k.extractLsb' 6 3) (k.extractLsb' 4 2) (k.getLsbD 3) (k.getLsbD 2) (k.getLsbD 1) (k.getLsbD 0) := by
  have hbit (i : Nat) : (k.getLsbD i).toNat = k.toNat / 2 ^ i % 2 := Nat.toNat_testBit _ _
  have hactive : k.toNat / 2 ^ 9 % 2 = 1 := by rw [← hbit, h]; rfl
  have hk := k.isLt
  apply BitVec.eq_of_toNat_eq
  simp only [activeKey, BitVec.toNat_ofNat, BitVec.extractLsb'_toNat, Nat.shiftRight_eq_div_pow, hbit]
  omega

/-- The row that the decoder picks for an active key matches it, video mode by video mode. -/
theorem matchesKey_decodeKey_activeKey (vm : BitVec 3) (cm : BitVec 2) (lsb msb a0 a1 : Bool) :
    (decodeKey (activeKey vm cm lsb msb a0 a1)).matchesKey (activeKey vm cm lsb msb a0 a1) = true := by
  have hmode : vm = 0 ∨ vm = 1 ∨ vm = 2 ∨ vm = 3 ∨ vm = 4 ∨ vm = 5 ∨ vm = 6 ∨ vm = 7 := by revert vm; decide
  rcases hmode with rfl | rfl | rfl | rfl | rfl | rfl | rfl | rfl <;> revert cm lsb msb a0 a1 <;> decide

/-- The row that the decoder picks for a key matches it; an inactive one is BORDER's, whose row tests ACTIVE alone. -/
theorem matchesKey_decodeKey (k : BitVec 10) : (decodeKey k).matchesKey k = true := by
  cases hactive : k.getLsbD 9 with
  | false =>
    have hzero : k &&& BitVec.twoPow 10 9 = 0 := by rw [BitVec.and_twoPow, hactive]; rfl
    rw [decodeKey, hactive]
    exact decide_eq_true hzero
  | true =>
    rw [eq_activeKey hactive]
    exact matchesKey_decodeKey_activeKey _ _ _ _ _ _

/-- The rows of the RKEY table, in its order. -/
def rkeyRows : List Renderer :=
  [.border, .sync, .invalid, .attrib,
    .pixel_2c, .pixel_2c_msb, .pixel_2c_lsb, .pixel_2c_lsb_msb, .pixel_4c, .pixel_4c_lsb, .pixel_16c, .pixel_256c,
    .lpixel_2c, .lpixel_2c_msb, .lpixel_2c_lsb, .lpixel_2c_lsb_msb, .lpixel_4c, .lpixel_4c_lsb, .lpixel_16c,
    .lpixel_256c,
    .ch256_2c, .ch256_2c_a0, .ch256_2c_a1, .ch256_2c_a0_a1, .ch256_4c, .ch256_4c_a1, .ch256_16c, .ch256_256c,
    .ch128_2c, .ch128_2c_a0, .ch128_2c_a1, .ch128_2c_a0_a1, .ch128_4c, .ch128_4c_a1, .ch128_16c, .ch128_256c,
    .ch64_2c, .ch64_2c_a0, .ch64_2c_a1, .ch64_2c_a0_a1, .ch64_4c, .ch64_4c_a1, .ch64_16c, .ch64_256c]

theorem mem_rkeyRows (r : Renderer) : r ∈ rkeyRows := by
  cases r <;> decide

/-- Two different rows disagree on a bit that both of them test. -/
theorem eq_of_common_bits_eq : ∀ r ∈ rkeyRows, ∀ q ∈ rkeyRows,
    r.keyMatch &&& q.keyMask = q.keyMatch &&& r.keyMask → r = q := by
  decide

theorem eq_of_matchesKey {r q : Renderer} {k : BitVec 10} (hr : r.matchesKey k = true) (hq : q.matchesKey k = true) :
    r = q := by
  have hr : k &&& r.keyMask = r.keyMatch := of_decide_eq_true hr
  have hq : k &&& q.keyMask = q.keyMatch := of_decide_eq_true hq
  refine eq_of_common_bits_eq r (mem_rkeyRows r) q (mem_rkeyRows q) ?_
  rw [← hr, ← hq, BitVec.and_assoc, BitVec.and_assoc, BitVec.and_comm r.keyMask]

/-- Settles O2: the decoder's row matches the key, and no two rows match one key. -/
theorem keyTableUnique : Obligations.KeyTableUnique := by
  unfold Obligations.KeyTableUnique
  intro k r
  exact ⟨fun h => eq_of_matchesKey h (matchesKey_decodeKey k), fun h => h ▸ matchesKey_decodeKey k⟩

theorem encode_renderer (r : Renderer) : encode r.instr = .key r.keyMatch := by
  cases r <;> rfl

/-- A row's match value is a key of that row. -/
theorem decodeKey_keyMatch (r : Renderer) : decodeKey r.keyMatch = r := by
  cases r <;> rfl

/-! ## Packets by what follows the header (R304) -/

/-- A header that nothing follows. -/
theorem decode_bare {hi lo : Byte} {i : Instr} (h : ∀ p, decodeHeader hi lo p = bare p i) :
    decode (packetOf hi lo [] []) = .ok i := by
  rw [decode_packetOf, h, bare, if_pos ⟨rfl, rfl⟩]

/-- A header that one operand word follows. -/
theorem decode_oneWord {hi lo : Byte} {f : Word32 → Instr} {w : Word32} {i : Instr}
    (h : ∀ p, decodeHeader hi lo p = oneWord p f) (hw : f w = i) : decode (packetOf hi lo [w] []) = .ok i := by
  rw [decode_packetOf, h, ← hw, oneWord]

/-- A header that a length and a stream of as many bytes follow. -/
theorem decode_loadBytes {hi lo : Byte} {f : List Byte → Instr} (h : ∀ p, decodeHeader hi lo p = loadBytes p f)
    {d : List Byte} (hd : loadFits d = true) :
    decode (packetOf hi lo [BitVec.ofNat 32 d.length] d) = .ok (f d) := by
  have hlength : d.length = (BitVec.ofNat 32 d.length).toNat := by
    rw [BitVec.toNat_ofNat, Nat.mod_eq_of_lt (of_decide_eq_true hd)]
  rw [decode_packetOf, h]
  exact if_pos hlength

theorem decodeConfigure_of_words {imm : Byte} {p : Packet} {fCpu fSlot fSnd w : Word32}
    (hwords : p.words = [fCpu, fSlot, fSnd, w]) (hbytes : p.bytes = []) :
    decodeConfigure imm p =
      if w.extractLsb' 8 24 = 0 then .ok (.configure imm fCpu fSlot fSnd (wordLow w)) else .error .nwaitHighBits := by
  rw [decodeConfigure, hwords, hbytes]

theorem decode_configure (imm : Byte) (fCpu fSlot fSnd : Word32) (nwait : Byte) :
    decode (packetOf 0x88 imm [fCpu, fSlot, fSnd, ioWord nwait 0] []) =
      .ok (.configure imm fCpu fSlot fSnd nwait) := by
  have hheader : ∀ p, decodeHeader 0x88 imm p = decodeConfigure imm p := fun _ => rfl
  have hhigh : (ioWord nwait 0).extractLsb' 8 24 = 0 := by revert nwait; decide
  rw [decode_packetOf, hheader, decodeConfigure_of_words rfl rfl, if_pos hhigh, wordLow_ioWord]

/-! ## Decoding an encoding -/

/-- The round trip of a transaction, by what follows its header. -/
theorem decode_encode_packet {i : Instr} {p : Packet} (hpacket : encode i = .packet p) (hwf : wellFormed i = true) :
    decode (encode i) = .ok i := by
  cases i
  case configure imm fCpu fSlot fSnd nwait => exact decode_configure imm fCpu fSlot fSnd nwait
  case snapshotLoadVideo | snapshotLoadSound | snapshotLoadInt => exact decode_loadBytes (fun _ => rfl) hwf
  case cpuMemFetch a | cpuMemRead a | cpuMemWrite a | waitQueryFetch a | waitQueryRead a | waitQueryWrite a =>
    exact decode_oneWord (fun _ => rfl) (by rw [wordAddr_addrWord])
  case cpuIoRead port | waitQueryIo port =>
    exact decode_oneWord (fun _ => rfl) (by rw [wordLow_ioWord])
  case cpuIoWrite port data =>
    exact decode_oneWord (fun _ => rfl) (by rw [wordLow_ioWord, wordData_ioWord])
  case ext2 level => cases level <;> exact decode_bare fun _ => rfl
  case pwSndR0 | prSndR0 | pwSndR1 | prSndR1 | pwSndR2 | prSndR2 | pwSndR3 | prSndR3 | pwSndR4 | prSndR4 |
    pwSndR5 | prSndR5 | pwSndR6 | prSndR6 | pwSndR7 | prSndR7 | pwSndR8 | prSndR8 | pwSndR9 | prSndR9 | pwSndR10 |
    prSndR10 | pwSndR11 | prSndR11 | pwSndR12 | prSndR12 | pwSndR13 | prSndR13 | pwSndR14 | prSndR14 | pwSndR15 |
    prSndR15 | pwIntCtrl | prIntStatus | pwReserved11 | prReserved11 | pwReserved12 | prReserved12 |
    pwReserved13 | prReserved13 | pwReserved14 | prReserved14 | pwReserved15 | prReserved15 | pwReserved16 |
    prReserved16 | pwReserved17 | prReserved17 | pwFixbias | prFixbias | pwBorder | prBorder | pwLptLo | prLptLo |
    pwLptHi | prLptHi | pwReserved1C | prReserved1C | pwReserved1D | prReserved1D | pwReserved1E | prReserved1E |
    pwReserved1F | prReserved1F | slotStep | soundTick | videoSlot | cpuCycles | cpuEnd | snapshotSaveVideo |
    snapshotSaveSound | snapshotSaveInt | reset =>
    exact decode_bare fun _ => rfl
  all_goals cases hpacket

/-- Settles O1: a transaction by what follows its header, and a renderer by its row of the key table. -/
theorem decodeEncode : Obligations.DecodeEncode := by
  unfold Obligations.DecodeEncode
  intro i hwf
  cases hcode : encode i with
  | packet p => rw [← hcode]; exact decode_encode_packet hcode hwf
  | key k =>
    obtain ⟨r, rfl⟩ := eq_renderer_of_encode_key hcode
    rw [← hcode, encode_renderer, decode, decodeKey_keyMatch]

/-! ## Ignored bits (R300, R302) -/

theorem kind_low (x : BitVec 6) (kind : BitVec 2) : (x ++ kind : Byte).extractLsb' 0 2 = kind := append_low x kind

theorem flag_low (x : BitVec 7) (flag : BitVec 1) : (x ++ flag : Byte).getLsbD 0 = flag.getLsbD 0 :=
  BitVec.getLsbD_append.trans (if_pos (by decide))

theorem wordAddr_append (y a : Half) : wordAddr (y ++ a) = a := append_low y a

theorem wordLow_append (y : Half) (d p : Byte) : wordLow (y ++ (d ++ p)) = p :=
  (low_half y _ 0 (by decide)).trans (append_low d p)

theorem wordData_append (y : Half) (d p : Byte) : wordData (y ++ (d ++ p)) = d :=
  (low_half y _ 8 (by decide)).trans (append_high d p)

/-- A PR's header has its offset, and its data byte is ignored. -/
theorem decodeHeader_portRead (off : BitVec 5) (lo : Byte) (p : Packet) :
    decodeHeader ((2 : BitVec 3) ++ off) lo p = bare p (portReadInstr off) := by
  have hclass : ((2 : BitVec 3) ++ off : Byte).extractLsb' 6 2 = 1 := by revert off; decide
  have hbit13 : ((2 : BitVec 3) ++ off : Byte).getLsbD 5 = false := by revert off; decide
  have hoff : ((2 : BitVec 3) ++ off : Byte).extractLsb' 0 5 = off := append_low 2 off
  rw [decodeHeader, hclass, hbit13, hoff]
  rfl

theorem decodeMem_kind (x : BitVec 6) (kind : BitVec 2) (p : Packet) :
    decodeMem (x ++ kind) p = decodeMem ((0 : BitVec 6) ++ kind) p := by
  rw [decodeMem, decodeMem, kind_low, kind_low]

theorem decodeQuery_kind (x : BitVec 6) (kind : BitVec 2) (p : Packet) :
    decodeQuery (x ++ kind) p = decodeQuery ((0 : BitVec 6) ++ kind) p := by
  rw [decodeQuery, decodeQuery, kind_low, kind_low]

theorem decodeIo_direction (x : BitVec 7) (dir : BitVec 1) (p : Packet) :
    decodeIo (x ++ dir) p = decodeIo ((0 : BitVec 7) ++ dir) p := by
  rw [decodeIo, decodeIo, flag_low, flag_low]

theorem decode_ext2 (x : BitVec 7) (level : BitVec 1) :
    decode (packetOf 0x87 (x ++ level) [] []) = .ok (.ext2 (level.getLsbD 0)) := by
  rw [← flag_low x level]
  exact decode_bare fun _ => rfl

/-- Settles O4, clause by clause: each decoder reads only the bits of its fields. -/
theorem ignoredBits : Obligations.IgnoredBits := by
  unfold Obligations.IgnoredBits
  refine ⟨fun imm => ?bare, fun off lo => decode_bare (decodeHeader_portRead off lo), fun x y a => ?mem,
    fun x y a => ?query, fun x y u p => ?queryIo, fun x y d p => ?io, fun x => ⟨decode_ext2 x 0, decode_ext2 x 1⟩⟩
  case bare => exact ⟨decode_bare fun _ => rfl, decode_bare fun _ => rfl, decode_bare fun _ => rfl,
    decode_bare fun _ => rfl, decode_bare fun _ => rfl⟩
  case mem =>
    have haddr := wordAddr_append y a
    exact ⟨decode_oneWord (decodeMem_kind x 0) (by rw [haddr]), decode_oneWord (decodeMem_kind x 1) (by rw [haddr]),
      decode_oneWord (decodeMem_kind x 2) (by rw [haddr])⟩
  case query =>
    have haddr := wordAddr_append y a
    exact ⟨decode_oneWord (decodeQuery_kind x 0) (by rw [haddr]),
      decode_oneWord (decodeQuery_kind x 1) (by rw [haddr]), decode_oneWord (decodeQuery_kind x 2) (by rw [haddr])⟩
  case queryIo => exact decode_oneWord (decodeQuery_kind x 3) (by rw [wordLow_append])
  case io =>
    exact ⟨decode_oneWord (decodeIo_direction x 0) (by rw [wordLow_append]),
      decode_oneWord (decodeIo_direction x 1) (by rw [wordLow_append, wordData_append])⟩

/-! ## Reserved encodings (R360) -/

/-- In a running block a packet that is no transaction is refused by name. -/
theorem issue_of_decodePacket_error {p : Packet} {e : DecodeError} {s : State} (hf : s.clk.faulted = false)
    (h : decodePacket p = .error e) :
    issue (.packet p) s = .next
      { s with clk := { s.clk with refused := true }, reply := .refused (.encoding e) } := by
  have hreason : (if s.clk.faulted then RefuseReason.faulted else .encoding e) = .encoding e := by rw [hf]; rfl
  rw [issue_of_error s (x := .packet p) h, rejectSource, hreason, refuse_eq]

theorem header_class (h : Half) : (h.extractLsb' 8 8).extractLsb' 6 2 = h.extractLsb' 14 2 := by
  refine BitVec.eq_of_getLsbD_eq fun i hi => ?_
  simp [hi, show 6 + i < 8 by omega, ← Nat.add_assoc]

theorem header_opcode (h : Half) : (h.extractLsb' 8 8).extractLsb' 0 6 = h.extractLsb' 8 6 := by
  refine BitVec.eq_of_getLsbD_eq fun i hi => ?_
  simp [hi, show i < 8 by omega]

theorem header_bit13 (h : Half) : (h.extractLsb' 8 8).getLsbD 5 = h.getLsbD 13 := by
  simp

theorem decodePacket_reservedClass {p : Packet} (hclass : (p.header.extractLsb' 14 2).toNat = 3) :
    decodePacket p = .error .reservedClass := by
  rw [decodePacket, decodeHeader, header_class, hclass]
  rfl

theorem decodePacket_reservedBit13 {p : Packet} (hclass : (p.header.extractLsb' 14 2).toNat ≤ 1)
    (hbit : p.header.getLsbD 13 = true) : decodePacket p = .error .reservedBit13 := by
  rw [decodePacket, decodeHeader, header_class, header_bit13, hbit]
  obtain hzero | hone : (p.header.extractLsb' 14 2).toNat = 0 ∨ (p.header.extractLsb' 14 2).toNat = 1 := by omega
  · rw [hzero]; rfl
  · rw [hone]; rfl

theorem decodePacket_of_op {p : Packet} (hclass : (p.header.extractLsb' 14 2).toNat = 2) :
    decodePacket p = decodeOp (p.header.extractLsb' 8 6) (p.header.extractLsb' 0 8) p := by
  rw [decodePacket, decodeHeader, header_class, header_opcode, hclass]
  rfl

theorem decodeOp_reservedOpcode {opcode : BitVec 6} (h : 0x0D ≤ opcode.toNat) (imm : Byte) (p : Packet) :
    decodeOp opcode imm p = .error .reservedOpcode := by
  unfold decodeOp
  split
  case h_14 => rfl
  all_goals omega

theorem decodeMem_reservedKind {imm : Byte} (h : imm.toNat % 4 = 3) (p : Packet) :
    decodeMem imm p = .error .reservedKind := by
  have hkind : (imm.extractLsb' 0 2).toNat = 3 := by rw [BitVec.extractLsb'_toNat]; exact h
  rw [decodeMem, hkind]
  rfl

theorem decodeSave_reserved {imm : Byte} (h : 3 ≤ imm.toNat) (p : Packet) :
    decodeSave imm p = .error .reservedSubsystem := by
  unfold decodeSave
  split
  case h_4 => rfl
  all_goals omega

theorem decodeLoad_reserved {imm : Byte} (h : 3 ≤ imm.toNat) (p : Packet) :
    decodeLoad imm p = .error .reservedSubsystem := by
  unfold decodeLoad
  split
  case h_4 => rfl
  all_goals omega

theorem high_ne_zero {w : Word32} (h : 256 ≤ w.toNat) : w.extractLsb' 8 24 ≠ 0 := by
  intro hzero
  have hnat : w.toNat >>> 8 % 2 ^ 24 = 0 := by rw [← BitVec.extractLsb'_toNat, hzero]; rfl
  have hw := w.isLt
  omega

/-- Settles O3, clause by clause: the decoder's error, and what the block does with it. -/
theorem refusedEncodings : Obligations.RefusedEncodings := by
  unfold Obligations.RefusedEncodings
  intro p s hf
  refine ⟨fun hclass => ?_, fun hclass hbit => ?_, fun hclass hop => ?_, fun hclass hop hkind => ?_,
    fun a b c w hclass hop hwords hbytes hw => ?_, fun hclass hop hsub => ?_⟩ <;>
  apply issue_of_decodePacket_error hf
  · exact decodePacket_reservedClass hclass
  · exact decodePacket_reservedBit13 hclass hbit
  all_goals rw [decodePacket_of_op hclass]
  · exact decodeOp_reservedOpcode hop _ p
  · rw [decodeOp, hop]; exact decodeMem_reservedKind hkind p
  · rw [decodeOp, hop]; exact (decodeConfigure_of_words hwords hbytes).trans (if_neg (high_ne_zero hw))
  · rcases hop with hop | hop
    · rw [decodeOp, hop]; exact decodeSave_reserved hsub p
    · rw [decodeOp, hop]; exact decodeLoad_reserved hsub p

/-- Settles O5: each number, taken apart by the layout and decoded. -/
theorem specWords : Obligations.SpecWords := by
  unfold Obligations.SpecWords
  exact ⟨rfl, rfl, rfl, rfl, rfl, rfl, rfl, rfl, rfl, rfl, rfl, rfl⟩

end Sys2Proof.Proofs
end

section
/-! PROOFS. Statements of 30_encoding.md outside the encoding: the reserved ports (R361; O17), and the generators' periods,
widths and steps (R321; 44_sound.md R720 to R728; O33). -/

namespace Sys2Proof.Proofs

open Sys2Proof Sys2Proof.Machine

/-! ## Reserved ports (R361) -/

theorem perform_ignoreWrite (v : Byte) {s : State} (h : s.clk.faulted = false) :
    perform (ignoreWrite v) s = .next { s with reply := .completed } := by
  rw [perform_of_running _ h]
  exact congrArg _ (complete_of_running h)

/-- Settles O17: a reserved write is an ignored one, and a reserved read answers the reserved byte. -/
theorem reservedPorts : Obligations.ReservedPorts := by
  unfold Obligations.ReservedPorts
  intro s v hf
  have hwrite := perform_ignoreWrite v hf
  have hread := answerByte_of_running reservedByte hf
  refine ⟨fun i hi => ?writes, fun i hi => ?reads⟩
  case writes => fin_cases hi <;> exact hwrite
  case reads => fin_cases hi <;> exact hread

/-! ## Tones (44_sound.md R720 to R722) -/

theorem toneStep_of_zero {n : Snd} {c : Fin 3} (h : n.toneCnt[c] = 0) :
    n.toneStep c =
      { n with toneCnt := n.toneCnt.set c (n.period c), toneOut := n.toneOut.set c (!n.toneOut[c]) } := by
  rw [Snd.toneStep, countdown_of_zero _ h]
  rfl

theorem toneStep_of_pos {n : Snd} {c : Fin 3} (h : n.toneCnt[c] ≠ 0) :
    n.toneStep c = { n with toneCnt := n.toneCnt.set c (n.toneCnt[c] - 1) } := by
  rw [Snd.toneStep, countdown_of_pos _ h]
  rfl

/-- A nibble above a byte. -/
theorem nibble_append_toNat (x : BitVec 4) (y : Byte) : (x ++ y : BitVec 12).toNat = y.toNat + 256 * x.toNat := by
  have happend : (x ++ y).toNat = x.toNat <<< 8 ||| y.toNat := BitVec.toNat_append x y
  rw [← Nat.shiftLeft_add_eq_or_of_lt y.isLt] at happend
  omega

theorem low_nibble_toNat (x : Byte) : (x.extractLsb' 0 4).toNat = x.toNat % 16 := by
  simp

theorem high_nibble_toNat (x : Byte) : (x.extractLsb' 4 4).toNat = x.toNat / 16 := by
  have hx := x.isLt
  rw [BitVec.extractLsb'_toNat, Nat.shiftRight_eq_div_pow]
  omega

/-! ## Noise (44_sound.md R723, R724) -/

/-- A shift doubles the register and adds the new low bit, within the width. -/
theorem lfsrNext_eq_ofNat {w : Nat} (hw : w ≤ 17) (x : BitVec 17) :
    lfsrNext w x = BitVec.ofNat 17 ((2 * x.toNat + (lfsrBit w x).toNat) % 2 ^ w) := by
  have hbit : (lfsrBit w x).toNat < 2 ^ 1 := Bool.toNat_lt _
  have hpow : 2 ^ w ∣ 2 ^ 17 := Nat.pow_dvd_pow 2 hw
  have hshift : (2 * x.toNat + (lfsrBit w x).toNat) % 2 ^ w = (x.toNat <<< 1 ||| (lfsrBit w x).toNat) % 2 ^ w := by
    rw [← Nat.shiftLeft_add_eq_or_of_lt hbit, Nat.shiftLeft_eq, Nat.mul_comm x.toNat, Nat.pow_one]
  apply BitVec.eq_of_toNat_eq
  have hnew : ((BitVec.ofBool (lfsrBit w x)).setWidth 17).toNat = (lfsrBit w x).toNat := by
    cases lfsrBit w x <;> rfl
  have hfits := Nat.mod_lt (x.toNat <<< 1 ||| (lfsrBit w x).toNat) (Nat.two_pow_pos w)
  rw [lfsrNext, BitVec.toNat_and, BitVec.toNat_or, BitVec.toNat_shiftLeft, hnew, lfsrMask_toNat hw,
    Nat.and_two_pow_sub_one_eq_mod, Nat.or_mod_two_pow, Nat.mod_mod_of_dvd _ hpow, ← Nat.or_mod_two_pow, hshift,
    BitVec.toNat_ofNat, Nat.mod_eq_of_lt (hfits.trans_le (Nat.le_of_dvd (by decide) hpow))]

theorem noiseStep_eq (n : Snd) :
    n.noiseStep =
      if n.noiseCnt = 0 then
        { n with
          noiseCnt := n.reg[5]
          noiseOut := lfsrBit n.width n.lfsr
          lfsr := BitVec.ofNat 17 ((2 * n.lfsr.toNat + (lfsrBit n.width n.lfsr).toNat) % 2 ^ n.width) }
      else { n with noiseCnt := n.noiseCnt - 1 } := by
  have hw : n.width ≤ 17 := (noiseTap_between n.nw).2.2
  rw [Snd.noiseStep, lfsrNext_eq_ofNat hw]
  rfl

/-! ## Envelope (44_sound.md R727, R728) -/

theorem envStep_of_pos {n : Snd} (h : n.envCnt ≠ 0) : n.envStep = { n with envCnt := n.envCnt - 1 } := if_neg h

theorem envStep_of_zero {n : Snd} (h : n.envCnt = 0) : n.envStep = Snd.envMove { n with envCnt := n.ep } := if_pos h

theorem envMove_of_inside {n : Snd} (h0 : 0 ≤ (n.envPos.toNat : Int) + n.envDir.toInt)
    (h31 : (n.envPos.toNat : Int) + n.envDir.toInt ≤ 31) :
    n.envMove = { n with envPos := BitVec.ofInt 5 (n.envPos.toNat + n.envDir.toInt) } := if_pos ⟨h0, h31⟩

/-- An envelope at the end of the ramp that it moves towards overruns, by CONT, HOLD and ALT. -/
theorem envMove_of_end {n : Snd} (h : (n.envPos = 0 ∧ n.envDir = .down) ∨ (n.envPos = 31 ∧ n.envDir = .up)) :
    n.envMove =
      if !n.cont then { n with envPos := 0, envDir := .still }
      else if !n.hold then
        (if !n.alt then { n with envPos := if n.att then 0 else 31 } else { n with envDir := n.envDir.neg })
      else if !n.alt then { n with envDir := .still }
      else { n with envPos := 31 - n.envPos, envDir := .still } := by
  have houtside : ¬(0 ≤ (n.envPos.toNat : Int) + n.envDir.toInt ∧ (n.envPos.toNat : Int) + n.envDir.toInt ≤ 31) := by
    rcases h with ⟨hpos, hdir⟩ | ⟨hpos, hdir⟩ <;> rw [hpos, hdir] <;> decide
  rw [Snd.envMove, if_neg houtside]
  cases n.cont with
  | false => rfl
  | true => cases n.hold <;> cases n.alt <;> rfl

/-- Settles O33, from the steps of the three kinds of generator. -/
theorem generatorSteps : Obligations.GeneratorSteps := by
  unfold Obligations.GeneratorSteps
  refine ⟨by decide, by decide, fun w hw => lfsrMask_toNat ?width, fun n => ⟨fun c => ?tone, ?period0, ?period1,
    ?period2, noiseStep_eq n, envStep_of_pos, fun h0 hlow hhigh => ?inside, fun h0 hend => ?overrun⟩⟩
  case width => revert w; decide
  case tone =>
    split
    case isTrue h => exact toneStep_of_zero h
    case isFalse h => exact toneStep_of_pos h
  case period0 | period2 => exact (nibble_append_toNat _ _).trans (by rw [low_nibble_toNat])
  case period1 => exact (nibble_append_toNat _ _).trans (by rw [high_nibble_toNat])
  case inside => exact (envStep_of_zero h0).trans (envMove_of_inside hlow hhigh)
  case overrun => exact (envStep_of_zero h0).trans (envMove_of_end hend)

end Sys2Proof.Proofs
end

section
/-! PROOFS. Statements of 40_scheduler.md on single transactions: CONFIGURE (R400; O40), and the CPU events, issued by
the host or supplied inside a slot step (R405 to R409, R412; O41 to O43). -/

namespace Sys2Proof.Proofs

open Sys2Proof Sys2Proof.Machine

/-! ## CONFIGURE (R400, R901) -/

/-- A ratio of operands of 32 bits is at least one unit, where none is 0 (R400, corner cases). -/
theorem one_le_ratio {f fSlot : Word32} (hf : f ≠ 0) (hslot : fSlot ≠ 0) : 1 ≤ ratio f fSlot := by
  have hf0 : f.toNat ≠ 0 := fun h => hf (BitVec.eq_of_toNat_eq h)
  have hslot0 : fSlot.toNat ≠ 0 := fun h => hslot (BitVec.eq_of_toNat_eq h)
  have hslot32 := fSlot.isLt
  exact Nat.div_pos (by omega) (by omega)

theorem memModeOf_eq (mode : Byte) :
    memModeOf mode = if mode = 0 then .always else if mode = 1 then .fetchOnly else .never := by
  by_cases h0 : mode = 0
  · rw [if_pos h0, h0]; rfl
  by_cases h1 : mode = 1
  · rw [if_neg h0, if_pos h1, h1]; rfl
  rw [if_neg h0, if_neg h1, memModeOf]
  split
  case h_1 h => exact absurd (BitVec.eq_of_toNat_eq h) h0
  case h_2 h => exact absurd (BitVec.eq_of_toNat_eq h) h1
  case h_3 => rfl

/-- The 1 Hz half period is max(1, floor(F_SND / 2)). -/
theorem onehzHalf_eq_max (n : Nat) :
    (if n = 0 then 1 else BitVec.ofNat 32 n) = BitVec.ofNat 32 (max 1 n) := by
  split
  case isTrue h => rw [h]; rfl
  case isFalse h => rw [Nat.max_eq_right (by omega)]

section Checks

variable {mode : Byte} {fCpu fSlot fSnd : Word32}

theorem configProblem_of_zero (h : fCpu = 0 ∨ fSlot = 0 ∨ fSnd = 0) :
    configProblem mode fCpu fSlot fSnd = some .ce1 := if_pos h

theorem configProblem_of_mode (h0 : ¬(fCpu = 0 ∨ fSlot = 0 ∨ fSnd = 0)) (hmode : 2 < mode.toNat) :
    configProblem mode fCpu fSlot fSnd = some .ce2 := (if_neg h0).trans (if_pos hmode)

theorem one_le_ratios (h0 : ¬(fCpu = 0 ∨ fSlot = 0 ∨ fSnd = 0)) :
    1 ≤ ratio fCpu fSlot ∧ 1 ≤ ratio fSnd fSlot := by
  obtain ⟨hcpu, hslot, hsnd⟩ : fCpu ≠ 0 ∧ fSlot ≠ 0 ∧ fSnd ≠ 0 := by simpa only [not_or] using h0
  exact ⟨one_le_ratio hcpu hslot, one_le_ratio hsnd hslot⟩

/-- With legal operands only the upper bound of the ratios is left to check: CE3 never comes. -/
theorem configProblem_of_legal (h0 : ¬(fCpu = 0 ∨ fSlot = 0 ∨ fSnd = 0)) (hmode : mode.toNat ≤ 2) :
    configProblem mode fCpu fSlot fSnd =
      if 2 ^ 56 ≤ ratio fCpu fSlot ∨ 2 ^ 56 ≤ ratio fSnd fSlot then some .ce4 else none := by
  obtain ⟨hcpu, hsnd⟩ := one_le_ratios h0
  rw [configProblem, if_neg h0, if_neg (by omega), if_neg (by omega)]
  rfl

end Checks

section Effect

variable {mode nwait : Byte} {fCpu fSlot fSnd : Word32} {s : State}

theorem exec_configure_of_problem {c : ConfigError} (hf : s.clk.faulted = false)
    (h : configProblem mode fCpu fSlot fSnd = some c) :
    exec (.configure mode fCpu fSlot fSnd nwait) s = .next { s with reply := .configError c } := by
  refine (accept_of_running (configure mode fCpu fSlot fSnd nwait) hf).trans ?_
  rw [configure, h]
  rfl

theorem exec_configure_of_none (hf : s.clk.faulted = false) (h : configProblem mode fCpu fSlot fSnd = none) :
    exec (.configure mode fCpu fSlot fSnd nwait) s =
      .next { s with clk := s.clk.configure s.params mode fCpu fSlot fSnd nwait, reply := .completed } := by
  refine (accept_of_running (configure mode fCpu fSlot fSnd nwait) hf).trans ?_
  rw [configure, h]
  exact congrArg _ (complete_of_running hf)

end Effect

/-- Settles O40, by the first check of R400 that fails. -/
theorem configure : Obligations.Configure := by
  unfold Obligations.Configure
  intro s mode nwait fCpu fSlot fSnd hf
  refine ⟨fun h0 => ?zero, fun h0 hmode => ?mode, one_le_ratios, fun h0 hmode hlarge => ?large,
    fun h0 hmode hsmall => ?legal⟩
  case zero => exact exec_configure_of_problem hf (configProblem_of_zero h0)
  case mode => exact exec_configure_of_problem hf (configProblem_of_mode h0 hmode)
  case large => exact exec_configure_of_problem hf ((configProblem_of_legal h0 hmode).trans (if_pos hlarge))
  case legal =>
    rw [exec_configure_of_none hf ((configProblem_of_legal h0 hmode).trans (if_neg hsmall)), Clk.configure,
      memModeOf_eq, onehzHalf_eq_max]
    rfl

/-! ## Charging (R406, R412) -/

theorem fitsS64_of_bounds {x : Int} (hlow : -2 ^ 63 ≤ x) (hhigh : x < 2 ^ 63) : fitsS64 x = true :=
  (fitsS64_iff x).mpr ⟨hlow, hhigh⟩

theorem not_fitsS64_of_out {x : Int} (h : x < -2 ^ 63 ∨ 2 ^ 63 ≤ x) : ¬fitsS64 x = true := by
  rw [fitsS64_iff]; omega

/-- What acc_cpu is after a charge of w cycles. -/
abbrev charged (w : Byte) (s : State) : Int := s.clk.accCpu - w.toNat * 2 ^ 32

theorem charge_of_fits {w : Byte} {s : State} (hf : s.clk.faulted = false) (hlow : -2 ^ 63 ≤ charged w s)
    (hhigh : charged w s < 2 ^ 63) :
    charge w s =
      { s with clk := { s.clk with accCpu := charged w s, instrCost := s.clk.instrCost + w.setWidth 32 } } := by
  rcases charge_spec w s hf with ⟨-, e⟩ | ⟨hfits, -⟩
  · exact e
  · exact absurd (fitsS64_of_bounds hlow hhigh) (by rw [show fitsS64 (charged w s) = false from hfits]; decide)

theorem charge_of_overflow {w : Byte} {s : State} (hf : s.clk.faulted = false)
    (hout : charged w s < -2 ^ 63 ∨ 2 ^ 63 ≤ charged w s) : charge w s = raiseFatal .cpu s := by
  rcases charge_spec w s hf with ⟨hfits, -⟩ | ⟨-, e⟩
  · exact absurd hfits (not_fitsS64_of_out hout)
  · exact e

/-! ## The start of an instruction (R405) -/

theorem ensureInstr_eq (s : State) :
    ensureInstr s =
      { s with clk := { s.clk with inInstr := true, instrCost := if s.clk.inInstr then s.clk.instrCost else 0 } } := by
  rcases ensureInstr_spec s with ⟨h, e⟩ | ⟨h, e⟩
  · rw [e, if_pos h, ← h]
  · rw [e, if_neg (by rw [h]; decide)]; rfl

/-- The start of an instruction changes nothing a wait depends on. -/
theorem waitCycles_ensureInstr (k : AccessKind) (a : Half) (s : State) :
    waitCycles (ensureInstr s) k a = waitCycles s k a := by
  rw [ensureInstr_eq]; rfl

/-- A CPU event of the host, in a configured block that runs. -/
theorem hostEvent_eq {s : State} (f : State → State) (hf : s.clk.faulted = false) (hc : s.clk.configured = true) :
    acceptConfigured (fun s => complete (f (ensureInstr s))) s = .next (complete (f (ensureInstr s))) :=
  acceptConfigured_of_running _ hf hc

theorem ensureInstr_faulted (s : State) : (ensureInstr s).clk.faulted = s.clk.faulted := by
  rw [ensureInstr_eq]

theorem charged_ensureInstr (w : Byte) (s : State) : charged w (ensureInstr s) = charged w s := by
  rw [charged, ensureInstr_eq]

/-- The state after an event has started an instruction where none was in progress, and charged w cycles to it. -/
abbrev startCharged (w : Byte) (s : State) : State :=
  { s with clk := { s.clk with
      accCpu := charged w s, inInstr := true
      instrCost := (if s.clk.inInstr then s.clk.instrCost else 0) + w.setWidth 32 } }

section HostCharge

variable {w : Byte} {s : State} (hf : s.clk.faulted = false)
include hf

theorem charge_ensureInstr_of_fits (hlow : -2 ^ 63 ≤ charged w s) (hhigh : charged w s < 2 ^ 63) :
    charge w (ensureInstr s) = startCharged w s := by
  rw [← charged_ensureInstr] at hlow hhigh
  rw [charge_of_fits ((ensureInstr_faulted s).trans hf) hlow hhigh, charged_ensureInstr, ensureInstr_eq]

theorem charge_ensureInstr_of_overflow (hout : charged w s < -2 ^ 63 ∨ 2 ^ 63 ≤ charged w s) :
    charge w (ensureInstr s) = raiseFatal .cpu (ensureInstr s) := by
  rw [← charged_ensureInstr] at hout
  exact charge_of_overflow ((ensureInstr_faulted s).trans hf) hout

end HostCharge

/-- The FatalAssertion of a host event, after the start of its instruction. -/
theorem complete_raiseFatal_ensureInstr (s : State) :
    complete (raiseFatal .cpu (ensureInstr s)) =
      { s with
        clk := { s.clk with
          inInstr := true, instrCost := if s.clk.inInstr then s.clk.instrCost else 0, faulted := true }
        reply := .fatal .cpu } := by
  rw [complete_of_faulted rfl, raiseFatal_eq, ensureInstr_eq]

/-! ## CPU_CYCLES and CPU_MEM (R406) -/

/-- An event of the host that charges w cycles and does nothing else. -/
theorem hostCharge_cases {s : State} {w : Byte} {o : Host.Outcome State Fault Refusal} (hf : s.clk.faulted = false)
    (ho : o = .next (complete (charge w (ensureInstr s)))) :
    (-2 ^ 63 ≤ charged w s → charged w s < 2 ^ 63 → o = .next { startCharged w s with reply := .completed }) ∧
    (charged w s < -2 ^ 63 ∨ 2 ^ 63 ≤ charged w s →
      o = .next { s with
        clk := { s.clk with
          inInstr := true, instrCost := if s.clk.inInstr then s.clk.instrCost else 0, faulted := true }
        reply := .fatal .cpu }) := by
  rw [ho]
  constructor
  · intro hlow hhigh
    rw [charge_ensureInstr_of_fits hf hlow hhigh]
    exact congrArg _ (complete_of_running hf)
  · intro hout
    rw [charge_ensureInstr_of_overflow hf hout, complete_raiseFatal_ensureInstr]

theorem completeAgent_of_running {s : State} (h : s.clk.faulted = false) :
    completeAgent s = { s with agentReplies := s.agentReplies ++ [.completed] } := by
  rw [completeAgent, if_neg (by rw [h]; decide)]; rfl

theorem completeAgent_of_faulted {s : State} (h : s.clk.faulted = true) :
    completeAgent s = { s with agentReplies := s.agentReplies ++ [.fatal .cpu] } := by
  rw [completeAgent, if_pos h]; rfl

/-- The FatalAssertion of acc_cpu, told to the agent. -/
theorem completeAgent_raiseFatal (s : State) :
    completeAgent (raiseFatal .cpu s) =
      { s with
        clk := { s.clk with faulted := true }
        reply := .fatal .cpu
        agentReplies := s.agentReplies ++ [.fatal .cpu] } := completeAgent_of_faulted rfl

/-- An event of the agent that charges w cycles and does nothing else. -/
theorem agentCharge_cases {s : State} {w : Byte} {t : State} (hf : s.clk.faulted = false)
    (ht : t = completeAgent (charge w s)) :
    (-2 ^ 63 ≤ charged w s → charged w s < 2 ^ 63 →
      t = { s with
        clk := { s.clk with accCpu := charged w s, instrCost := s.clk.instrCost + w.setWidth 32 }
        agentReplies := s.agentReplies ++ [.completed] }) ∧
    (charged w s < -2 ^ 63 ∨ 2 ^ 63 ≤ charged w s →
      t = { s with
        clk := { s.clk with faulted := true }
        reply := .fatal .cpu
        agentReplies := s.agentReplies ++ [.fatal .cpu] }) := by
  rw [ht]
  constructor
  · intro hlow hhigh
    rw [charge_of_fits hf hlow hhigh]
    exact completeAgent_of_running hf
  · intro hout
    rw [charge_of_overflow hf hout, completeAgent_raiseFatal]

/-- Settles O41: each event is the charge of its cycles or its wait. -/
theorem cpuCharges : Obligations.CpuCharges := by
  unfold Obligations.CpuCharges
  refine ⟨fun s n a hf hc => ?host, fun s n a hf => ?agent⟩
  case host =>
    have hmem : ∀ k, acceptConfigured (fun s => complete (cpuMem k a (ensureInstr s))) s =
        .next (complete (charge (waitCycles s k a) (ensureInstr s))) := fun k => by
      rw [hostEvent_eq (cpuMem k a) hf hc, cpuMem, waitCycles_ensureInstr]
    exact ⟨hostCharge_cases hf (hostEvent_eq (cpuCycles n) hf hc), hostCharge_cases hf (hmem .fetch),
      hostCharge_cases hf (hmem .read), hostCharge_cases hf (hmem .write)⟩
  case agent =>
    exact ⟨agentCharge_cases hf rfl, agentCharge_cases hf rfl, agentCharge_cases hf rfl, agentCharge_cases hf rfl⟩

/-! ## CPU_END (R409) -/

theorem refuseAgent_eq (r : RefuseReason) (s : State) :
    refuseAgent r s =
      { s with clk := { s.clk with refused := true }, agentReplies := s.agentReplies ++ [.refused r] } := rfl

theorem exec_cpuEnd_eq {s : State} (hf : s.clk.faulted = false) (hc : s.clk.configured = true) :
    exec .cpuEnd s = .next (
      if (ensureInstr s).clk.instrCost = 0 then refuse .zeroCycles s else complete (endInstr (ensureInstr s))) :=
  acceptConfigured_of_running (fun s =>
    if (ensureInstr s).clk.instrCost = 0 then refuse .zeroCycles s else complete (endInstr (ensureInstr s))) hf hc

theorem exec_cpuEnd_of_zero {s : State} (hf : s.clk.faulted = false) (hc : s.clk.configured = true)
    (h : s.clk.inInstr = false ∨ s.clk.instrCost = 0) :
    exec .cpuEnd s = .next { s with clk := { s.clk with refused := true }, reply := .refused .zeroCycles } := by
  rw [exec_cpuEnd_eq hf hc, if_pos ((ensureInstr_cost_eq_zero s).mpr h), refuse_eq]

theorem exec_cpuEnd_of_charged {s : State} (hf : s.clk.faulted = false) (hc : s.clk.configured = true)
    (hin : s.clk.inInstr = true) (hcost : s.clk.instrCost ≠ 0) :
    exec .cpuEnd s = .next { s with clk := { s.clk with inInstr := false }, reply := .completed } := by
  have hstart : ensureInstr s = s := if_pos hin
  rw [exec_cpuEnd_eq hf hc, hstart, if_neg hcost]
  exact congrArg _ (complete_of_running hf)

theorem cpuEvent_fin_of_zero {s : State} (h : s.clk.instrCost = 0) :
    cpuEvent .fin s = refuseAgent .zeroCycles s := if_pos h

theorem cpuEvent_fin_of_charged {s : State} (hf : s.clk.faulted = false) (h : s.clk.instrCost ≠ 0) :
    cpuEvent .fin s =
      { s with clk := { s.clk with inInstr := false }, agentReplies := s.agentReplies ++ [.completed] } :=
  (if_neg h).trans (completeAgent_of_running (s := endInstr s) hf)

/-- Settles O43, by whether the instruction has charged a cycle. -/
theorem cpuEnd : Obligations.CpuEnd := by
  unfold Obligations.CpuEnd
  exact ⟨fun s hf hc => ⟨exec_cpuEnd_of_charged hf hc, exec_cpuEnd_of_zero hf hc⟩,
    fun s a => ⟨cpuEvent_fin_of_zero, fun hcost hf => cpuEvent_fin_of_charged hf hcost, refuseAgent_eq _ s⟩⟩

/-! ## The access of a CPU I/O event (R408) -/

/-- The PW of an offset performs the port write. -/
theorem exec_portWriteInstr (off : BitVec 5) (v : Byte) (s : State) :
    exec (portWriteInstr off v) s = perform (portWrite off v) s := by
  obtain ⟨⟨n, hn⟩⟩ := off
  interval_cases n <;> rfl

/-- The PR of an offset answers the port read. -/
theorem exec_portReadInstr (off : BitVec 5) (s : State) :
    exec (portReadInstr off) s = answerByte (portRead off) s := by
  obtain ⟨⟨n, hn⟩⟩ := off
  interval_cases n <;> rfl

/-- The port lies in the block's window. -/
abbrev InWindow (p : Params) (port : Byte) : Prop :=
  p.portBase.toNat ≤ port.toNat ∧ port.toNat < p.portBase.toNat + 32

/-- The offset of a port of the window. -/
abbrev windowOffset (p : Params) (port : Byte) : BitVec 5 := BitVec.ofNat 5 (port.toNat - p.portBase.toNat)

theorem portOffset_of_inside {p : Params} {port : Byte} (h : InWindow p port) :
    portOffset p port = some (windowOffset p port) := if_pos h

theorem portOffset_of_outside {p : Params} {port : Byte} (h : ¬InWindow p port) : portOffset p port = none := if_neg h

section Access

variable {s : State} {port data : Byte}

theorem performIo_write_inside (h : InWindow s.params port) :
    performIo ⟨true, port, data⟩ s = portWrite (windowOffset s.params port) data s := by
  rw [performIo, portOffset_of_inside h]; rfl

theorem performIo_read_inside (h : InWindow s.params port) :
    performIo ⟨false, port, data⟩ s =
      { s with delivered := s.delivered ++ [portRead (windowOffset s.params port) s] } := by
  rw [performIo, portOffset_of_inside h]; rfl

theorem performIo_write_outside (h : ¬InWindow s.params port) :
    performIo ⟨true, port, data⟩ s = { s with extIo := s.extIo ++ [.write port data] } := by
  rw [performIo, portOffset_of_outside h]; rfl

theorem performIo_read_outside (h : ¬InWindow s.params port) :
    performIo ⟨false, port, data⟩ s =
      { s with
        extIo := s.extIo ++ [.read port]
        ioDraws := s.ioDraws + 1
        delivered := s.delivered ++ [Config.ioRead s.ioDraws port] } := by
  rw [performIo, portOffset_of_outside h]; rfl

theorem exec_portWriteInstr_eq (off : BitVec 5) (hf : s.clk.faulted = false) :
    exec (portWriteInstr off data) s = .next (complete (portWrite off data s)) :=
  (exec_portWriteInstr off data s).trans (perform_of_running _ hf)

theorem exec_portReadInstr_eq (off : BitVec 5) (hf : s.clk.faulted = false) :
    exec (portReadInstr off) s = .next { s with reply := .byte (portRead off s) } :=
  (exec_portReadInstr off s).trans (answerByte_of_running _ hf)

end Access

/-! ## CPU_IO (R407) -/

section IoEvent

variable {x : PendingIo} {s t : State}

/-- An I/O event whose charge is the FatalAssertion stops there. -/
theorem cpuIo_of_fatal (h : charge (ioWait s) s = raiseFatal .cpu s) : cpuIo x s = raiseFatal .cpu s := by
  have hcharge : charge (waitCycles s .io (x.port.setWidth 16)) s = raiseFatal .cpu s := h
  rw [cpuIo, hcharge]
  exact unlessFatal_of_faulted _ rfl

/-- An access that lies beyond the slot once its wait is charged is held. -/
theorem cpuIo_of_beyond (h : charge (ioWait s) s = t) (hf : t.clk.faulted = false) (hneg : t.clk.accCpu < 0) :
    cpuIo x s = { t with clk := { t.clk with pendingIo := some x } } := by
  have hcharge : charge (waitCycles s .io (x.port.setWidth 16)) s = t := h
  rw [cpuIo, hcharge, unlessFatal_of_running _ hf, if_pos hneg]
  rfl

/-- An access that does not is performed. -/
theorem cpuIo_of_within (h : charge (ioWait s) s = t) (hf : t.clk.faulted = false) (hdue : 0 ≤ t.clk.accCpu) :
    cpuIo x s = performIo x t := by
  have hcharge : charge (waitCycles s .io (x.port.setWidth 16)) s = t := h
  rw [cpuIo, hcharge, unlessFatal_of_running _ hf, if_neg (by omega)]

end IoEvent

theorem ioWait_ensureInstr (s : State) : ioWait (ensureInstr s) = ioWait s := waitCycles_ensureInstr .io 0 s

section HostIo

variable {s : State} (hf : s.clk.faulted = false) (hc : s.clk.configured = true) (port data : Byte)
include hf

include hc in
theorem exec_cpuIoRead :
    exec (.cpuIoRead port) s = .next (complete (cpuIo ⟨false, port, 0⟩ (ensureInstr s))) :=
  hostEvent_eq (cpuIo (ioAccess false port 0)) hf hc

include hc in
theorem exec_cpuIoWrite :
    exec (.cpuIoWrite port data) s = .next (complete (cpuIo ⟨true, port, data⟩ (ensureInstr s))) :=
  hostEvent_eq (cpuIo (ioAccess true port data)) hf hc

theorem hostIo_of_overflow (x : PendingIo)
    (hout : charged (ioWait s) s < -2 ^ 63 ∨ 2 ^ 63 ≤ charged (ioWait s) s) :
    complete (cpuIo x (ensureInstr s)) =
      { s with
        clk := { s.clk with
          inInstr := true, instrCost := if s.clk.inInstr then s.clk.instrCost else 0, faulted := true }
        reply := .fatal .cpu } := by
  have hcharge := charge_ensureInstr_of_overflow hf hout
  rw [← ioWait_ensureInstr] at hcharge
  rw [cpuIo_of_fatal hcharge, complete_raiseFatal_ensureInstr]

theorem charge_ioWait_ensureInstr (hlow : -2 ^ 63 ≤ charged (ioWait s) s) (hhigh : charged (ioWait s) s < 2 ^ 63) :
    charge (ioWait (ensureInstr s)) (ensureInstr s) = startCharged (ioWait s) s := by
  rw [ioWait_ensureInstr]
  exact charge_ensureInstr_of_fits hf hlow hhigh

theorem hostIo_of_beyond (x : PendingIo) (hlow : -2 ^ 63 ≤ charged (ioWait s) s) (hneg : charged (ioWait s) s < 0) :
    complete (cpuIo x (ensureInstr s)) =
      { s with
        clk := { (startCharged (ioWait s) s).clk with pendingIo := some x }
        reply := .completed } := by
  rw [cpuIo_of_beyond (charge_ioWait_ensureInstr hf hlow (by omega)) hf hneg]
  exact complete_of_running hf

theorem hostIo_of_within (x : PendingIo) (hdue : 0 ≤ charged (ioWait s) s) (hhigh : charged (ioWait s) s < 2 ^ 63) :
    cpuIo x (ensureInstr s) = performIo x (startCharged (ioWait s) s) :=
  cpuIo_of_within (charge_ioWait_ensureInstr hf (by omega) hhigh) hf hdue

end HostIo

section AgentIo

variable {s : State} (hf : s.clk.faulted = false) (write : Bool) (port data : Byte)
include hf

theorem cpuEvent_io_of_overflow (hout : charged (ioWait s) s < -2 ^ 63 ∨ 2 ^ 63 ≤ charged (ioWait s) s) :
    cpuEvent (.io write port data) s = completeAgent (raiseFatal .cpu s) :=
  congrArg completeAgent (cpuIo_of_fatal (charge_of_overflow hf hout))

theorem cpuEvent_io_of_beyond (hlow : -2 ^ 63 ≤ charged (ioWait s) s) (hneg : charged (ioWait s) s < 0) :
    cpuEvent (.io write port data) s =
      { s with
        clk := { s.clk with
          accCpu := charged (ioWait s) s
          instrCost := s.clk.instrCost + (ioWait s).setWidth 32
          pendingIo := some (ioAccess write port data) }
        agentReplies := s.agentReplies ++ [.completed] } := by
  have hio := cpuIo_of_beyond (x := ioAccess write port data) (charge_of_fits hf hlow (by omega)) hf hneg
  refine (congrArg completeAgent hio).trans ?_
  exact completeAgent_of_running hf

theorem cpuEvent_io_of_within (hdue : 0 ≤ charged (ioWait s) s) (hhigh : charged (ioWait s) s < 2 ^ 63) :
    cpuEvent (.io write port data) s =
      { performIo (ioAccess write port data) { s with clk := { s.clk with
          accCpu := charged (ioWait s) s, instrCost := s.clk.instrCost + (ioWait s).setWidth 32 } } with
        agentReplies := s.agentReplies ++ [.completed] } := by
  have hio := cpuIo_of_within (x := ioAccess write port data) (charge_of_fits hf (by omega) hhigh) hf hdue
  refine (congrArg completeAgent hio).trans ?_
  rw [completeAgent_of_running (by rw [performIo_clk]; exact hf), performIo_writes]

end AgentIo

/-- Settles O42: the wait is charged, and then the event stops, or its access is held, or is performed. -/
theorem cpuIoAccess : Obligations.CpuIoAccess := by
  unfold Obligations.CpuIoAccess
  refine ⟨fun s port data hf hc => ?host, fun s write port data hf => ?agent⟩
  case host =>
    have hread := exec_cpuIoRead hf hc port
    have hwrite := exec_cpuIoWrite hf hc port data
    have hrun : (startCharged (ioWait s) s).clk.faulted = false := hf
    refine ⟨fun hout => ?overflow, fun hlow hneg => ?held, fun hdue hhigh hin => ?inside,
      fun hdue hhigh hout => ?outside⟩
    case overflow =>
      simp only [List.forall_mem_cons, List.not_mem_nil, false_implies, implies_true, and_true]
      rw [hread, hwrite, hostIo_of_overflow hf _ hout, hostIo_of_overflow hf _ hout]
      exact ⟨rfl, rfl⟩
    case held =>
      rw [hread, hwrite, hostIo_of_beyond hf _ hlow hneg, hostIo_of_beyond hf _ hlow hneg]
      exact ⟨rfl, rfl⟩
    case inside =>
      have hin : InWindow (startCharged (ioWait s) s).params port := hin
      refine ⟨?_, _, exec_portReadInstr_eq _ hrun, ?_⟩
      · rw [hwrite, hostIo_of_within hf _ hdue hhigh, performIo_write_inside hin]
        exact (exec_portWriteInstr_eq _ hrun).symm
      · rw [hread, hostIo_of_within hf _ hdue hhigh, performIo_read_inside hin]
        exact congrArg _ (complete_of_running hf)
    case outside =>
      have hout : ¬InWindow (startCharged (ioWait s) s).params port := hout
      rw [hread, hwrite, hostIo_of_within hf _ hdue hhigh, hostIo_of_within hf _ hdue hhigh,
        performIo_write_outside hout, performIo_read_outside hout]
      exact ⟨congrArg _ (complete_of_running hf), congrArg _ (complete_of_running hf)⟩
  case agent =>
    exact ⟨fun hout => (cpuEvent_io_of_overflow hf write port data hout).trans (completeAgent_raiseFatal s),
      cpuEvent_io_of_beyond hf write port data, cpuEvent_io_of_within hf write port data⟩

end Sys2Proof.Proofs
end

section
/-! PROOFS. The sound catch-up as its sound ticks, and their number over K catch-ups (40_scheduler.md R403, R411;
O47). -/

namespace Sys2Proof.Proofs

open Sys2Proof Sys2Proof.Machine

/-! ## The samples of a tick (44_sound.md R730) -/

/-- The number of samples in the trace. -/
abbrev samples (s : State) : Nat := s.trace.countP Event.isSample

theorem irqEvents_samples (i : Intr) : (irqEvents i).countP Event.isSample = 0 := by
  unfold irqEvents
  split
  · rfl
  · cases i.wanted <;> rfl

theorem intSetLevel_samples (k : Fin 4) (v : Bool) (s : State) : samples (intSetLevel k v s) = samples s := by
  rw [samples, intSetLevel_eq, List.countP_append, irqEvents_samples, Nat.add_zero]

/-! The two dividers, each by whether its count reaches the half period (45_interrupts.md R804). -/

section Dividers

variable {s : State}

theorem timerTick_of_toggle (h : s.params.timerHalf ≤ (s.intr.timerCnt + 1).toNat) :
    timerTick s = intSetLevel 0 (!s.intr.level[0]) (s.setIntr { s.intr with timerCnt := 0 }) := if_pos h

theorem timerTick_of_count (h : ¬s.params.timerHalf ≤ (s.intr.timerCnt + 1).toNat) :
    timerTick s = s.setIntr { s.intr with timerCnt := s.intr.timerCnt + 1 } := if_neg h

theorem onehzTick_of_toggle (h : s.clk.onehzHalf.toNat ≤ (s.intr.onehzCnt + 1).toNat) :
    onehzTick s = intSetLevel 1 (!s.intr.level[1]) (s.setIntr { s.intr with onehzCnt := 0 }) := if_pos h

theorem onehzTick_of_count (h : ¬s.clk.onehzHalf.toNat ≤ (s.intr.onehzCnt + 1).toNat) :
    onehzTick s = s.setIntr { s.intr with onehzCnt := s.intr.onehzCnt + 1 } := if_neg h

end Dividers

theorem timerTick_samples (s : State) : samples (timerTick s) = samples s := by
  by_cases h : s.params.timerHalf ≤ (s.intr.timerCnt + 1).toNat
  · rw [timerTick_of_toggle h, intSetLevel_samples]; rfl
  · rw [timerTick_of_count h]; rfl

theorem onehzTick_samples (s : State) : samples (onehzTick s) = samples s := by
  by_cases h : s.clk.onehzHalf.toNat ≤ (s.intr.onehzCnt + 1).toNat
  · rw [onehzTick_of_toggle h, intSetLevel_samples]; rfl
  · rw [onehzTick_of_count h]; rfl

/-- A tick emits exactly one sample: the dividers emit none. -/
theorem soundTick_samples (s : State) : samples (soundTick s) = samples s + 1 := by
  have hdivider : samples (intDividerTick (s.setSnd s.snd.tick)) = samples s :=
    (onehzTick_samples _).trans (timerTick_samples _)
  rw [samples, soundTick_eq, List.countP_append, ← hdivider]
  rfl

theorem iterate_soundTick_samples (n : Nat) (s : State) : samples (soundTick^[n] s) = samples s + n := by
  induction n with
  | zero => rfl
  | succ n ih => rw [Function.iterate_succ_apply', soundTick_samples, ih, Nat.add_assoc]

theorem iterate_soundTick_clk (n : Nat) (s : State) : (soundTick^[n] s).clk = s.clk := by
  induction n with
  | zero => rfl
  | succ n ih => rw [Function.iterate_succ_apply', soundTick_clk, ih]

/-! ## A tick reads onehz_half alone of CLK -/

theorem intSetLevel_setClk (k : Fin 4) (v : Bool) (s : State) (c : Clk) :
    intSetLevel k v (s.setClk c) = (intSetLevel k v s).setClk c := by
  rw [intSetLevel_eq, intSetLevel_eq]; rfl

theorem timerTick_setClk (s : State) (c : Clk) : timerTick (s.setClk c) = (timerTick s).setClk c := by
  by_cases h : s.params.timerHalf ≤ (s.intr.timerCnt + 1).toNat
  · rw [timerTick_of_toggle h, timerTick_of_toggle (s := s.setClk c) h]
    exact intSetLevel_setClk 0 (!s.intr.level[0]) (s.setIntr { s.intr with timerCnt := 0 }) c
  · rw [timerTick_of_count h, timerTick_of_count (s := s.setClk c) h]; rfl

theorem onehzTick_setClk (s : State) {c : Clk} (hhalf : c.onehzHalf = s.clk.onehzHalf) :
    onehzTick (s.setClk c) = (onehzTick s).setClk c := by
  by_cases h : s.clk.onehzHalf.toNat ≤ (s.intr.onehzCnt + 1).toNat
  · rw [onehzTick_of_toggle h, onehzTick_of_toggle (s := s.setClk c) (hhalf ▸ h)]
    exact intSetLevel_setClk 1 (!s.intr.level[1]) (s.setIntr { s.intr with onehzCnt := 0 }) c
  · rw [onehzTick_of_count h, onehzTick_of_count (s := s.setClk c) (hhalf ▸ h)]; rfl

theorem soundTick_setClk (s : State) {c : Clk} (h : c.onehzHalf = s.clk.onehzHalf) :
    soundTick (s.setClk c) = (soundTick s).setClk c := by
  have htimer : (timerTick (s.setSnd s.snd.tick)).clk = s.clk := by rw [timerTick_frame]; rfl
  have hdivider :
      intDividerTick ((s.setSnd s.snd.tick).setClk c) = (intDividerTick (s.setSnd s.snd.tick)).setClk c := by
    rw [intDividerTick, timerTick_setClk]
    exact onehzTick_setClk _ (by rw [htimer, h])
  exact congrArg emitSample hdivider

/-- The state with acc_snd replaced. -/
def withAccSnd (x : Int) (s : State) : State := s.setClk { s.clk with accSnd := x }

theorem soundTick_withAccSnd (x : Int) (s : State) : soundTick (withAccSnd x s) = withAccSnd x (soundTick s) := by
  rw [withAccSnd, withAccSnd, soundTick_clk]
  exact soundTick_setClk s rfl

theorem iterate_soundTick_withAccSnd (n : Nat) (x : Int) (s : State) :
    soundTick^[n] (withAccSnd x s) = withAccSnd x (soundTick^[n] s) :=
  (Function.Commute.iterate_left (soundTick_withAccSnd x) n) s

/-! ## The loop (R403) -/

/-- One round where a tick is due. -/
theorem soundLoop_succ_withAccSnd (n : Nat) {s : State} (hf : s.clk.faulted = false) (hdue : 0 ≤ s.clk.accSnd)
    (hfits : fitsS64 s.clk.accSnd = true) :
    soundLoop (n + 1) s = soundLoop n (withAccSnd (s.clk.accSnd - one) (soundTick s)) := by
  rw [soundLoop_succ_of_due n hf hdue hfits, withAccSnd, soundTick_clk]

/-- From an accumulator a that n ticks bring below 0 and no further than −ONE, the loop is n ticks. -/
theorem soundLoop_eq_ticks (n : Nat) {a : Int} {s : State} (hf : s.clk.faulted = false) (hfits : fitsS64 a = true)
    (hlow : -one ≤ a - n * one) (hneg : a - n * one < 0) :
    soundLoop n (withAccSnd a s) = withAccSnd (a - n * one) (soundTick^[n] s) := by
  induction n generalizing a s with
  | zero => simp [soundLoop]
  | succ n ih =>
    have hrange := (fitsS64_iff _).mp hfits
    have hdue : 0 ≤ a := by
      simp only [one] at *; omega
    have hfits' : fitsS64 (a - one) = true := by
      rw [fitsS64_iff]; simp only [one]; omega
    have hnext : a - one - n * one = a - (n + 1 : Nat) * one := by push_cast; ring
    have hround : soundLoop (n + 1) (withAccSnd a s) = soundLoop n (withAccSnd (a - one) (soundTick s)) := by
      rw [soundLoop_succ_withAccSnd (s := withAccSnd a s) n hf hdue hfits, soundTick_withAccSnd]
      rfl
    rw [hround, ih (by rw [soundTick_clk]; exact hf) hfits' (hnext ▸ hlow) (hnext ▸ hneg), hnext,
      Function.iterate_succ_apply]

/-! ## One catch-up and K of them (R403, R411) -/

/-- The ticks that fall due over k catch-ups, from an accumulator a and with a ratio r. -/
def dueTicks (a : Int) (r k : Nat) : Int := (a + k * r) / 2 ^ 32 - a / 2 ^ 32

/-- The accumulator after k catch-ups. -/
def accAfter (a : Int) (r k : Nat) : Int := a + k * r - dueTicks a r k * 2 ^ 32

section Due

variable {a : Int} (r k : Nat) (hlow : -2 ^ 32 ≤ a) (hneg : a < 0)
include hlow hneg

theorem dueTicks_eq : dueTicks a r k = (a + k * r) / 2 ^ 32 + 1 := by
  rw [dueTicks]; omega

theorem dueTicks_nonneg : 0 ≤ dueTicks a r k := by
  have hpos : (0 : Int) ≤ k * r := by positivity
  rw [dueTicks_eq r k hlow hneg]; omega

/-- The accumulator is the remainder of the sum, one ONE lower: it is in −ONE .. −1. -/
theorem accAfter_range : -2 ^ 32 ≤ accAfter a r k ∧ accAfter a r k < 0 := by
  rw [accAfter, dueTicks_eq r k hlow hneg]; omega

theorem dueTicks_succ : dueTicks a r (k + 1) = dueTicks a r k + dueTicks (accAfter a r k) r 1 := by
  obtain ⟨hlow', hneg'⟩ := accAfter_range r k hlow hneg
  rw [dueTicks_eq r 1 hlow' hneg', accAfter, dueTicks_eq r k hlow hneg, dueTicks_eq r (k + 1) hlow hneg]
  push_cast
  rw [add_mul]
  omega

theorem accAfter_succ : accAfter a r (k + 1) = accAfter (accAfter a r k) r 1 := by
  rw [accAfter, dueTicks_succ r k hlow hneg, accAfter.eq_def (accAfter a r k)]
  generalize dueTicks (accAfter a r k) r 1 = d
  rw [accAfter]
  push_cast
  ring

end Due

/-- The loop's rounds are the ticks that fall due in one catch-up. -/
theorem ticksDue_eq {a : Int} (r : Nat) (hlow : -2 ^ 32 ≤ a) (hneg : a < 0) :
    (ticksDue (a + r) : Int) = dueTicks a r 1 := by
  rw [dueTicks_eq r 1 hlow hneg, ticksDue, Nat.cast_one, one_mul]
  unfold one
  split <;> omega

/-- The sum of a catch-up stays in the range of acc_snd (R400, R412). -/
theorem soundSum_fits {s : State} (hlow : -2 ^ 32 ≤ s.clk.accSnd) (hneg : s.clk.accSnd < 0)
    (hratio : s.clk.rSnd < 2 ^ 56) : fitsS64 (s.clk.accSnd + s.clk.rSnd) = true := by
  rw [fitsS64_iff]; omega

/-- A catch-up whose sum fits is its loop, from that sum. -/
theorem soundCatchUp_of_fits {s : State} (hf : s.clk.faulted = false)
    (hfits : fitsS64 (s.clk.accSnd + s.clk.rSnd) = true) :
    soundCatchUp s =
      soundLoop (ticksDue (s.clk.accSnd + s.clk.rSnd)) (withAccSnd (s.clk.accSnd + s.clk.rSnd) s) := by
  rw [soundCatchUp, updateSnd, if_pos hfits]
  exact unlessFatal_of_running _ hf

theorem soundCatchUp_eq_ticks {s : State} (hf : s.clk.faulted = false) (hlow : -2 ^ 32 ≤ s.clk.accSnd)
    (hneg : s.clk.accSnd < 0) (hratio : s.clk.rSnd < 2 ^ 56) :
    soundCatchUp s = withAccSnd (accAfter s.clk.accSnd s.clk.rSnd 1)
      (soundTick^[(dueTicks s.clk.accSnd s.clk.rSnd 1).toNat] s) := by
  have hfits := soundSum_fits hlow hneg hratio
  have hticks := ticksDue_eq s.clk.rSnd hlow hneg
  have hacc : s.clk.accSnd + s.clk.rSnd - ticksDue (s.clk.accSnd + s.clk.rSnd) * one =
      accAfter s.clk.accSnd s.clk.rSnd 1 := by
    rw [accAfter, hticks, Nat.cast_one, one_mul]; rfl
  obtain ⟨hlow', hneg'⟩ := accAfter_range s.clk.rSnd 1 hlow hneg
  rw [soundCatchUp_of_fits hf hfits, soundLoop_eq_ticks _ hf hfits (hacc ▸ hlow') (hacc ▸ hneg'), hacc, ← hticks,
    Int.toNat_natCast]

/-- What K catch-ups leave: CLK but for acc_snd, one sample a tick, and the accumulator of the budget. -/
structure CaughtUp (s : State) (K : Nat) (t : State) : Prop where
  clk : t.clk = { s.clk with accSnd := accAfter s.clk.accSnd s.clk.rSnd K }
  samples : (samples t : Int) = samples s + dueTicks s.clk.accSnd s.clk.rSnd K

theorem soundCatchUp_caughtUp {s : State} (hf : s.clk.faulted = false) (hlow : -2 ^ 32 ≤ s.clk.accSnd)
    (hneg : s.clk.accSnd < 0) (hratio : s.clk.rSnd < 2 ^ 56) : CaughtUp s 1 (soundCatchUp s) := by
  have hnonneg := dueTicks_nonneg s.clk.rSnd 1 hlow hneg
  rw [soundCatchUp_eq_ticks hf hlow hneg hratio]
  constructor
  · rw [withAccSnd, State.setClk_clk, iterate_soundTick_clk]
  · rw [samples, withAccSnd, State.setClk_trace, ← samples, iterate_soundTick_samples, Nat.cast_add,
      Int.toNat_of_nonneg hnonneg]

/-- One more catch-up. -/
theorem CaughtUp.succ {s t u : State} {K : Nat} (hlow : -2 ^ 32 ≤ s.clk.accSnd) (hneg : s.clk.accSnd < 0)
    (h : CaughtUp s K t) (hnext : CaughtUp t 1 u) : CaughtUp s (K + 1) u where
  clk := by rw [hnext.clk, h.clk, accAfter_succ s.clk.rSnd K hlow hneg]
  samples := by rw [hnext.samples, h.samples, h.clk, dueTicks_succ s.clk.rSnd K hlow hneg, add_assoc]

theorem iterate_soundCatchUp {s : State} (K : Nat) (hf : s.clk.faulted = false) (hlow : -2 ^ 32 ≤ s.clk.accSnd)
    (hneg : s.clk.accSnd < 0) (hratio : s.clk.rSnd < 2 ^ 56) : CaughtUp s K (soundCatchUp^[K] s) := by
  induction K with
  | zero => constructor <;> simp [accAfter, dueTicks]
  | succ K ih =>
    obtain ⟨hlow', hneg'⟩ := accAfter_range s.clk.rSnd K hlow hneg
    rw [Function.iterate_succ_apply']
    exact ih.succ hlow hneg (soundCatchUp_caughtUp (by rw [ih.clk]; exact hf) (by rw [ih.clk]; exact hlow')
      (by rw [ih.clk]; exact hneg') (by rw [ih.clk]; exact hratio))

/-- Settles O47, by induction on the number of catch-ups. -/
theorem tickBudget : Obligations.TickBudget := by
  unfold Obligations.TickBudget
  intro s K hf hlow hneg hratio
  obtain ⟨hclk, hsamples⟩ := iterate_soundCatchUp K hf hlow hneg hratio
  have hacc : (soundCatchUp^[K] s).clk.accSnd = accAfter s.clk.accSnd s.clk.rSnd K := by rw [hclk]
  obtain ⟨hlow', hneg'⟩ := accAfter_range s.clk.rSnd K hlow hneg
  refine ⟨⟨dueTicks_nonneg s.clk.rSnd 1 hlow hneg, ?_⟩, hsamples, hacc, hacc ▸ hlow', hacc ▸ hneg'⟩
  rw [soundCatchUp_eq_ticks hf hlow hneg hratio, accAfter, Nat.cast_one, one_mul, withAccSnd, iterate_soundTick_clk]
  rfl

end Sys2Proof.Proofs
end

section
/-! PROOFS. CpuRun's loop and the slot step (40_scheduler.md R402, R404, R410): a slot step in which the CPU is not due
(O44), and one that runs one instruction or performs a held access (O45). -/

namespace Sys2Proof.Proofs

open Sys2Proof Sys2Proof.Machine

/-! ## A turn of the loop (R404) -/

section Turn

variable {s : State}

theorem cpuTurn_of_faulted (hf : s.clk.faulted = true) : cpuTurn s = (.stopped, s) := if_pos hf

theorem cpuTurn_of_running (hf : s.clk.faulted = false) : cpuTurn s = cpuDue (releaseHeld s) :=
  if_neg (by rw [hf]; decide)

theorem releaseHeld_of_none (h : s.clk.pendingIo = none) : releaseHeld s = s := by
  rw [releaseHeld, h]

/-- An access is held while it lies beyond the slot. -/
theorem releaseHeld_of_beyond (hneg : s.clk.accCpu < 0) : releaseHeld s = s := by
  rcases releaseHeld_spec s with ⟨-, e⟩ | ⟨-, -, -, e⟩ | ⟨-, -, hdue, -⟩
  · exact e
  · exact e
  · omega

theorem releaseHeld_of_due {x : PendingIo} (h : s.clk.pendingIo = some x) (hdue : 0 ≤ s.clk.accCpu) :
    releaseHeld s = performIo x { s with clk := { s.clk with pendingIo := none } } := by
  rw [releaseHeld, h]
  exact if_neg (by omega)

/-- With no access held, an instruction in progress goes on, and one that is due starts. -/
theorem cpuDue_of_wants (hnone : s.clk.pendingIo = none) (h : s.clk.inInstr = true ∨ 0 ≤ s.clk.accCpu) :
    cpuDue s = (.wants, ensureInstr s) := by
  rcases cpuDue_spec s with ⟨hheld, -⟩ | ⟨-, hin, e⟩ | ⟨-, hout, -, e⟩ | ⟨-, hout, hneg, -⟩
  · rw [hnone] at hheld
    exact absurd hheld Bool.false_ne_true
  · rw [e, ensureInstr, if_pos hin]
  · rw [e, ensureInstr, if_neg (by rw [hout]; decide)]
  · rw [hout] at h
    exact absurd h (by simp [hneg])

/-- The CPU's work ends with an access held, or between instructions with the CPU not due. -/
theorem cpuDue_of_idle (hneg : s.clk.accCpu < 0) (h : s.clk.pendingIo ≠ none ∨ s.clk.inInstr = false) :
    cpuDue s = (.done, s) := by
  rcases cpuDue_spec s with ⟨-, e⟩ | ⟨hnone, hin, -⟩ | ⟨-, -, hdue, -⟩ | ⟨-, -, -, e⟩
  · exact e
  · rw [hnone, hin] at h
    exact absurd h (by simp)
  · omega
  · exact e

theorem cpuTurn_of_wants (hf : s.clk.faulted = false) (hnone : s.clk.pendingIo = none)
    (h : s.clk.inInstr = true ∨ 0 ≤ s.clk.accCpu) : cpuTurn s = (.wants, ensureInstr s) := by
  rw [cpuTurn_of_running hf, releaseHeld_of_none hnone, cpuDue_of_wants hnone h]

theorem cpuTurn_of_idle (hf : s.clk.faulted = false) (hneg : s.clk.accCpu < 0)
    (h : s.clk.pendingIo ≠ none ∨ s.clk.inInstr = false) : cpuTurn s = (.done, s) := by
  rw [cpuTurn_of_running hf, releaseHeld_of_beyond hneg, cpuDue_of_idle hneg h]

/-- A held access that is due is performed, and the turn goes on with none held. -/
theorem cpuTurn_of_due {x : PendingIo} (hf : s.clk.faulted = false) (h : s.clk.pendingIo = some x)
    (hdue : 0 ≤ s.clk.accCpu) :
    cpuTurn s = cpuTurn (performIo x { s with clk := { s.clk with pendingIo := none } }) := by
  have hclk := performIo_clk x { s with clk := { s.clk with pendingIo := none } }
  rw [cpuTurn_of_running hf, releaseHeld_of_due h hdue, cpuTurn_of_running (by rw [hclk]; exact hf),
    releaseHeld_of_none (by rw [hclk])]

end Turn

/-! ## The loop (R404) -/

section Run

variable {s t : State}

/-- The loop depends on its state through the first turn alone. -/
theorem cpuRun_congr (q : List CpuInput) (h : cpuTurn s = cpuTurn t) : cpuRun q s = cpuRun q t := by
  cases q with
  | nil => rw [cpuRun, cpuRun, h]
  | cons i q => rw [cpuRun, cpuRun, h]

theorem cpuRun_cons_of_wants (i : CpuInput) (q : List CpuInput) (h : cpuTurn s = (.wants, t)) :
    cpuRun (i :: q) s = cpuRun q (cpuInput i t) := by
  rw [cpuRun, h]

theorem cpuRun_nil (s : State) : cpuRun [] s = ((cpuTurn s).1, { (cpuTurn s).2 with cpuIn := [] }) := rfl

/-- A turn that asks for no event ends the loop, with the agent's items left. -/
theorem cpuRun_of_done (q : List CpuInput) (h : cpuTurn s = (.done, t)) :
    cpuRun q s = (.done, { t with cpuIn := q }) := by
  cases q with
  | nil => rw [cpuRun_nil, h]
  | cons i q => rw [cpuRun, h]; rfl

theorem cpuRun_of_stopped (q : List CpuInput) (h : cpuTurn s = (.stopped, t)) :
    cpuRun q s = (.stopped, { t with cpuIn := q }) := by
  cases q with
  | nil => rw [cpuRun_nil, h]
  | cons i q => rw [cpuRun, h]; rfl

theorem cpuRun_of_idle (q : List CpuInput) (hf : s.clk.faulted = false) (hneg : s.clk.accCpu < 0)
    (h : s.clk.pendingIo ≠ none ∨ s.clk.inInstr = false) : cpuRun q s = (.done, { s with cpuIn := q }) :=
  cpuRun_of_done q (cpuTurn_of_idle hf hneg h)

theorem cpuRun_of_due {x : PendingIo} (q : List CpuInput) (hf : s.clk.faulted = false)
    (h : s.clk.pendingIo = some x) (hdue : 0 ≤ s.clk.accCpu) :
    cpuRun q s = cpuRun q (performIo x { s with clk := { s.clk with pendingIo := none } }) :=
  cpuRun_congr q (cpuTurn_of_due hf h hdue)

end Run

/-! ## The end of a slot step (R410) -/

/-- The video slot keeps CLK, so that the count is the only change of it. -/
theorem slotFinish_done {t : State} (hf : t.clk.faulted = false) :
    slotFinish (.done, t) = { videoSlot { t with slotOpen := false } with
      clk := { t.clk with slotCount := t.clk.slotCount + 1 }, reply := .completed } := by
  have hclk : (videoSlot { t with slotOpen := false }).clk = t.clk := videoSlot_clk _
  have hrun : (countSlot (videoSlot { t with slotOpen := false })).clk.faulted = false := by
    rw [countSlot, hclk]; exact hf
  have hend : slotFinish (.done, t) = complete (countSlot (videoSlot { t with slotOpen := false })) := rfl
  rw [hend, complete_of_running hrun, countSlot, hclk]
  rfl

theorem slotRun_of_done {s t : State} {q : List CpuInput} (hq : s.cpuIn = q) (h : cpuRun q s = (.done, t))
    (hf : t.clk.faulted = false) :
    slotRun s = { videoSlot { t with slotOpen := false } with
      clk := { t.clk with slotCount := t.clk.slotCount + 1 }, reply := .completed } := by
  rw [slotRun, hq, h, slotFinish_done hf]

/-! ## The slot step up to its CPU work (R402) -/

/-- A sound catch-up whose sum fits changes acc_snd, SND, INT and the trace alone. -/
theorem soundCatchUp_writes {s : State} (hf : s.clk.faulted = false)
    (hfits : fitsS64 (s.clk.accSnd + s.clk.rSnd) = true) : SameButSound s (soundCatchUp s) := by
  rw [soundCatchUp_of_fits hf hfits]
  obtain ⟨hwrites, -⟩ := soundLoop_writes (ticksDue (s.clk.accSnd + s.clk.rSnd))
    (withAccSnd (s.clk.accSnd + s.clk.rSnd) s) hf hfits
  exact hwrites

/-- A slot step's state before its CPU work: after the observers, the sound ticks and the CPU's budget. -/
def budgeted (s : State) : State :=
  { soundCatchUp (callObservers s) with
    clk := { (soundCatchUp (callObservers s)).clk with accCpu := s.clk.accCpu + s.clk.rCpu } }

section Budget

variable {s : State} (hf : s.clk.faulted = false) (hsnd : fitsS64 (s.clk.accSnd + s.clk.rSnd) = true)
include hf hsnd

theorem soundStage_writes : SameButSound (callObservers s) (soundCatchUp (callObservers s)) :=
  soundCatchUp_writes (s := callObservers s) hf hsnd

theorem soundStage_clk :
    (soundCatchUp (callObservers s)).clk =
      { s.clk with accSnd := (soundCatchUp (callObservers s)).clk.accSnd } :=
  congrArg State.clk (soundStage_writes hf hsnd)

theorem budgeted_clk :
    (budgeted s).clk =
      { s.clk with
        accCpu := s.clk.accCpu + s.clk.rCpu, accSnd := (soundCatchUp (callObservers s)).clk.accSnd } := by
  rw [budgeted, soundStage_clk hf hsnd]

theorem budgeted_cpuIn : (budgeted s).cpuIn = s.cpuIn := by
  rw [budgeted, soundStage_writes hf hsnd]; rfl

theorem budgeted_agentReplies : (budgeted s).agentReplies = s.agentReplies := by
  rw [budgeted, soundStage_writes hf hsnd]; rfl

/-- The sound ticks have left the CPU's accumulator and ratio as they were. -/
theorem cpuBudget_soundStage :
    cpuBudget (soundCatchUp (callObservers s)) =
      updateCpu (s.clk.accCpu + s.clk.rCpu) (soundCatchUp (callObservers s)) := by
  have hsum : (soundCatchUp (callObservers s)).clk.accCpu + (soundCatchUp (callObservers s)).clk.rCpu =
      s.clk.accCpu + s.clk.rCpu := by rw [soundStage_clk hf hsnd]
  rw [cpuBudget, hsum]

theorem soundStage_running : (soundCatchUp (callObservers s)).clk.faulted = false := by
  rw [soundStage_clk hf hsnd]; exact hf

theorem slotStep_eq_slotRun (hcpu : fitsS64 (s.clk.accCpu + s.clk.rCpu) = true) :
    slotStep s = slotRun (budgeted s) := by
  have hrun := soundStage_running hf hsnd
  rw [slotStep, unlessFatal_of_running _ hrun, cpuBudget_soundStage hf hsnd, updateCpu, if_pos hcpu]
  exact unlessFatal_of_running _ hrun

/-- A CPU budget that does not fit stops the slot step (R412). -/
theorem slotStep_eq_raiseFatal (hcpu : fitsS64 (s.clk.accCpu + s.clk.rCpu) = false) :
    slotStep s = raiseFatal .cpu (soundCatchUp (callObservers s)) := by
  rw [slotStep, unlessFatal_of_running _ (soundStage_running hf hsnd), cpuBudget_soundStage hf hsnd, updateCpu,
    if_neg (by rw [hcpu]; decide)]
  exact unlessFatal_of_faulted _ rfl

end Budget

/-- In a running, configured block whose accumulators fit, SLOT_STEP is the CPU's work from the budgeted state on. -/
theorem exec_slotStep {s : State} (hf : s.clk.faulted = false) (hc : s.clk.configured = true)
    (hsnd : fitsS64 (s.clk.accSnd + s.clk.rSnd) = true) (hcpu : fitsS64 (s.clk.accCpu + s.clk.rCpu) = true) :
    exec .slotStep s = .next (slotRun (budgeted s)) :=
  (acceptConfigured_of_running slotStep hf hc).trans (congrArg _ (slotStep_eq_slotRun hf hsnd hcpu))

/-- Settles O44: the loop ends in its first turn. -/
theorem slotStepIdle : Obligations.SlotStepIdle := by
  unfold Obligations.SlotStepIdle
  intro s hf hc hlow hneg hratio hcpu hidle hwait
  have hsnd := soundSum_fits hlow hneg hratio
  have hclk := budgeted_clk hf hsnd
  have hrun : (budgeted s).clk.faulted = false := by rw [hclk]; exact hf
  have hloop : cpuRun (budgeted s).cpuIn (budgeted s) = (.done, budgeted s) :=
    cpuRun_of_idle _ hrun (by rw [hclk]; exact hidle) (by rw [hclk]; exact hwait)
  have hcount : (budgeted s).clk.slotCount = s.clk.slotCount := by rw [hclk]
  rw [exec_slotStep hf hc hsnd (by rw [fitsS64_iff]; omega), slotRun_of_done rfl hloop hrun, hcount]
  rfl

/-! ## One instruction (R404, R406, R409) -/

theorem setWidth_ne_zero {n : Byte} (h : n ≠ 0) : n.setWidth 32 ≠ 0 := by
  bv_omega

/-- The loop over cycles that fit, in an instruction in progress or due. -/
theorem cpuRun_cycles {s : State} (n : Byte) (q : List CpuInput) (hf : s.clk.faulted = false)
    (hnone : s.clk.pendingIo = none) (hdue : s.clk.inInstr = true ∨ 0 ≤ s.clk.accCpu)
    (hlow : -2 ^ 63 ≤ charged n s) (hhigh : charged n s < 2 ^ 63) :
    cpuRun (.event (.cycles n) :: q) s =
      cpuRun q { startCharged n s with agentReplies := s.agentReplies ++ [.completed] } := by
  have hcharge : cpuCycles n (ensureInstr s) = startCharged n s := charge_ensureInstr_of_fits hf hlow hhigh
  have hevent : cpuEvent (.cycles n) (ensureInstr s) = completeAgent (startCharged n s) :=
    congrArg completeAgent hcharge
  rw [cpuRun_cons_of_wants _ q (cpuTurn_of_wants hf hnone hdue), cpuInput, hevent]
  exact congrArg _ (completeAgent_of_running hf)

/-- The loop over the end of an instruction that has charged cycles. -/
theorem cpuRun_fin {s : State} (q : List CpuInput) (hf : s.clk.faulted = false) (hnone : s.clk.pendingIo = none)
    (hin : s.clk.inInstr = true) (hcost : s.clk.instrCost ≠ 0) :
    cpuRun (.event .fin :: q) s =
      cpuRun q { s with
        clk := { s.clk with inInstr := false }, agentReplies := s.agentReplies ++ [.completed] } := by
  have hstart : ensureInstr s = s := if_pos hin
  rw [cpuRun_cons_of_wants _ q (cpuTurn_of_wants hf hnone (.inl hin)), hstart, cpuInput,
    cpuEvent_fin_of_charged hf hcost]

/-- The loop over an instruction of n cycles and no access that uses up the CPU's budget. -/
theorem cpuRun_oneInstruction {s : State} (n : Byte) (q : List CpuInput) (hf : s.clk.faulted = false)
    (hnone : s.clk.pendingIo = none) (hout : s.clk.inInstr = false) (hdue : 0 ≤ s.clk.accCpu)
    (hhigh : s.clk.accCpu < 2 ^ 63) (hn : n ≠ 0) (hspent : charged n s < 0) :
    cpuRun (.event (.cycles n) :: .event .fin :: q) s =
      (.done, { s with
        clk := { s.clk with accCpu := charged n s, inInstr := false, instrCost := n.setWidth 32 }
        cpuIn := q
        agentReplies := s.agentReplies ++ [.completed, .completed] }) := by
  have hn8 := n.isLt
  have hlow : -2 ^ 63 ≤ charged n s := by simp only [charged]; omega
  have hcost : (if s.clk.inInstr then s.clk.instrCost else 0) + n.setWidth 32 = n.setWidth 32 := by
    rw [if_neg (by rw [hout]; decide)]
    exact BitVec.zero_add _
  rw [cpuRun_cycles n _ hf hnone (.inr hdue) hlow (by omega), startCharged, hcost, cpuRun_fin, cpuRun_of_idle,
    List.append_assoc]
  · rfl
  · exact hf
  · exact hspent
  · exact .inr rfl
  · exact hf
  · exact hnone
  · rfl
  · exact setWidth_ne_zero hn

/-- The rest of a slot step whose CPU work is that one instruction. -/
theorem slotRun_oneInstruction {s : State} {n : Byte} {q : List CpuInput} (hf : s.clk.faulted = false)
    (hnone : s.clk.pendingIo = none) (hout : s.clk.inInstr = false) (hdue : 0 ≤ s.clk.accCpu)
    (hhigh : s.clk.accCpu < 2 ^ 63) (hn : n ≠ 0) (hspent : charged n s < 0)
    (hq : s.cpuIn = .event (.cycles n) :: .event .fin :: q) :
    slotRun s = { videoSlot { s with
        clk := { s.clk with accCpu := charged n s, inInstr := false, instrCost := n.setWidth 32 }
        cpuIn := q
        agentReplies := s.agentReplies ++ [.completed, .completed]
        slotOpen := false } with
      clk := { s.clk with
        accCpu := charged n s, inInstr := false, instrCost := n.setWidth 32, slotCount := s.clk.slotCount + 1 }
      reply := .completed } := by
  have hloop := cpuRun_oneInstruction n q hf hnone hout hdue hhigh hn hspent
  rw [slotRun_of_done hq hloop hf]

/-- The access takes nothing of the agent's items. -/
theorem slotRun_of_due {s : State} {x : PendingIo} (hf : s.clk.faulted = false) (h : s.clk.pendingIo = some x)
    (hdue : 0 ≤ s.clk.accCpu) :
    slotRun s = slotRun (performIo x { s with clk := { s.clk with pendingIo := none } }) := by
  have hcpuIn : (performIo x { s with clk := { s.clk with pendingIo := none } }).cpuIn = s.cpuIn := by
    rw [performIo_writes]
  rw [slotRun, slotRun, hcpuIn, cpuRun_of_due _ hf h hdue]

/-- Settles O45, clause by clause from the turns of the loop. -/
theorem slotStepOneInstruction : Obligations.SlotStepOneInstruction := by
  unfold Obligations.SlotStepOneInstruction
  refine ⟨fun s n q hf hc hlow hneg hratio hcpu hrCpu hnone hout hdue hn hspent hq => ?instruction,
    fun s x hf hc hlow hneg hratio hcpu hrCpu hheld hdue => ?held,
    fun s port data hf => ?access, fun s q hf hnone hdue => ?wants,
    fun s x q hf hheld hdue => cpuRun_of_due q hf hheld hdue,
    fun s q hf hneg hidle => cpuRun_of_idle q hf hneg hidle,
    fun s q hf => cpuRun_of_stopped q (cpuTurn_of_faulted hf),
    fun s => rfl, fun t => ⟨slotFinish_done, rfl, rfl⟩⟩
  case instruction =>
    have hsnd := soundSum_fits hlow hneg hratio
    have hclk := budgeted_clk hf hsnd
    have hrun : (budgeted s).clk.faulted = false := by rw [hclk]; exact hf
    have hcount : (budgeted s).clk.slotCount = s.clk.slotCount := by rw [hclk]
    have hwork := slotRun_oneInstruction (s := budgeted s) (n := n) (q := q) hrun (by rw [hclk]; exact hnone)
      (by rw [hclk]; exact hout) (by rw [hclk]; exact hdue) (by rw [hclk]; dsimp only; omega) hn
      (by rw [charged, hclk]; exact hspent) ((budgeted_cpuIn hf hsnd).trans hq)
    rw [exec_slotStep hf hc hsnd (by rw [fitsS64_iff]; omega), hwork, ← budgeted_agentReplies hf hsnd, ← hcount]
    rfl
  case held =>
    have hsnd := soundSum_fits hlow hneg hratio
    have hclk := budgeted_clk hf hsnd
    have hloop : slotRun (budgeted s) = slotRun _ := slotRun_of_due
      (by rw [hclk]; exact hf) (by rw [hclk]; exact hheld) (by rw [hclk]; exact hdue)
    rw [exec_slotStep hf hc hsnd (by rw [fitsS64_iff]; omega), hloop]
    rfl
  case access =>
    refine ⟨fun hin => ⟨?_, _, exec_portReadInstr_eq _ hf, performIo_read_inside hin⟩,
      fun hout => ⟨performIo_write_outside hout, performIo_read_outside hout⟩⟩
    rw [exec_portWriteInstr_eq _ hf, performIo_write_inside hin]
    exact congrArg _ (complete_of_running (by rw [portWrite_writes]; exact hf))
  case wants =>
    have hturn := cpuTurn_of_wants hf hnone hdue
    exact ⟨fun e => cpuRun_cons_of_wants _ q hturn, fun c => cpuRun_cons_of_wants _ q hturn,
      by rw [cpuRun_nil, hturn]; rfl⟩

end Sys2Proof.Proofs
end

section
/-! PROOFS. A slot step whole, whatever the CPU agent does (40_scheduler.md R402, R410, R414; 60_exceptions.md R904;
O46): what the CPU's work leaves as it is, what it takes and tells, and what the video advance adds. -/

namespace Sys2Proof.Proofs

open Sys2Proof Sys2Proof.Machine

/-! ## What the CPU's work leaves as it is -/

/-- What a slot step's CPU work leaves as it is, but for the outcomes it tells the agent and the changes of memory that
are the agent's own. -/
structure Outside where
  params : Params
  slotCount : BitVec 64
  slot : BitVec 6
  samples : Nat
  mem : Memory
  pageMap : Memory
  observed : List ObserverCall
  agentReplies : List Reply
  hostIn : List HostInput

/-- Those parts of a state. -/
def outside (s : State) : Outside where
  params := s.params
  slotCount := s.clk.slotCount
  slot := s.vid.slot
  samples := samples s
  mem := s.mem
  pageMap := s.pageMap
  observed := s.observed
  agentReplies := s.agentReplies
  hostIn := s.hostIn

/-- Events that are no samples leave the number of samples as it is. -/
theorem outside_append {s t : State} {l : List Event} (htrace : t.trace = s.trace ++ l)
    (hl : l.countP Event.isSample = 0) (h : outside { t with trace := s.trace } = outside s) :
    outside t = outside s := by
  have hsamples : samples t = samples s := by rw [samples, htrace, List.countP_append, hl, Nat.add_zero]
  simp only [outside, Outside.mk.injEq] at h ⊢
  obtain ⟨hparams, hcount, hslot, -, hrest⟩ := h
  exact ⟨hparams, hcount, hslot, hsamples, hrest⟩

theorem outside_intCtrl (v : Byte) (s : State) : outside (intCtrl v s) = outside s := by
  rw [intCtrl, irqUpdate_eq]
  exact outside_append rfl (irqEvents_samples _) rfl

theorem outside_portWrite (off : BitVec 5) (v : Byte) (s : State) : outside (portWrite off v s) = outside s := by
  unfold portWrite
  split
  · rfl
  · split <;> try rfl
    exact outside_intCtrl v s

theorem outside_performIo (x : PendingIo) (s : State) : outside (performIo x s) = outside s := by
  unfold performIo
  split
  · split
    · exact outside_portWrite _ _ s
    · rfl
  · split <;> rfl

theorem outside_charge (n : Byte) {s : State} (hf : s.clk.faulted = false) : outside (charge n s) = outside s := by
  rcases charge_spec n s hf with ⟨-, e⟩ | ⟨-, e⟩ <;> rw [e] <;> rfl

theorem outside_cpuIo (x : PendingIo) {s : State} (hf : s.clk.faulted = false) : outside (cpuIo x s) = outside s := by
  rcases cpuIo_spec x s hf with e | ⟨t, ht, -, -, e⟩ | ⟨t, ht, -, -, e⟩
  · rw [e]; rfl
  · rw [e, ← outside_charge (ioWait s) hf, ht]; rfl
  · rw [e, ← outside_charge (ioWait s) hf, ht]; exact outside_performIo x t

theorem outside_releaseHeld (s : State) : outside (releaseHeld s) = outside s := by
  rcases releaseHeld_spec s with ⟨-, e⟩ | ⟨-, -, -, e⟩ | ⟨x, -, -, e⟩ <;> rw [e]
  exact outside_performIo x _

theorem outside_cpuDue (s : State) : outside (cpuDue s).2 = outside s := by
  rcases cpuDue_spec s with ⟨-, e⟩ | ⟨-, -, e⟩ | ⟨-, -, -, e⟩ | ⟨-, -, -, e⟩ <;>
    exact (congrArg (fun x => outside x.2) e).trans rfl

/-! ## FatalAssertions (60_exceptions.md R903) -/

/-- A faulted block has told its host of the FatalAssertion. -/
def FatalTold (s : State) : Prop := s.clk.faulted = true → ∃ a, s.reply = .fatal a

theorem fatalTold_of_running {s : State} (hf : s.clk.faulted = false) : FatalTold s := by
  intro h
  rw [hf] at h
  exact absurd h Bool.false_ne_true

theorem fatalTold_charge (n : Byte) {s : State} (hf : s.clk.faulted = false) : FatalTold (charge n s) := by
  rcases charge_spec n s hf with ⟨-, e⟩ | ⟨-, e⟩ <;> rw [e]
  · exact fatalTold_of_running hf
  · exact fun _ => ⟨.cpu, rfl⟩

theorem fatalTold_cpuIo (x : PendingIo) {s : State} (hf : s.clk.faulted = false) : FatalTold (cpuIo x s) := by
  rcases cpuIo_spec x s hf with e | ⟨t, -, ht, -, e⟩ | ⟨t, -, ht, -, e⟩ <;> rw [e]
  · exact fun _ => ⟨.cpu, rfl⟩
  · exact fatalTold_of_running ht
  · exact fatalTold_of_running (by rw [performIo_clk]; exact ht)

/-! ## One item of the agent (R405) -/

/-- One more outcome told to the agent. -/
def Outside.tell (o : Outside) (r : Reply) : Outside := { o with agentReplies := o.agentReplies ++ [r] }

/-- What one event can do: the agent is told one outcome, and a FatalAssertion is told to the host. -/
structure EventEnd (s t : State) : Prop where
  told : ∃ r, outside t = (outside s).tell r
  fatal : FatalTold t

theorem EventEnd.of_complete {s t : State} (h : outside t = outside s) (hfatal : FatalTold t) :
    EventEnd s (completeAgent t) where
  told := ⟨if t.clk.faulted then .fatal .cpu else .completed, by rw [← h]; rfl⟩
  fatal := hfatal

theorem EventEnd.of_refuse {s : State} (r : RefuseReason) (hf : s.clk.faulted = false) :
    EventEnd s (refuseAgent r s) where
  told := ⟨.refused r, rfl⟩
  fatal := fatalTold_of_running hf

theorem cpuEvent_eventEnd (e : CpuEvent) {s : State} (hf : s.clk.faulted = false) : EventEnd s (cpuEvent e s) := by
  have hcharge : ∀ n, EventEnd s (completeAgent (charge n s)) := fun n =>
    .of_complete (outside_charge n hf) (fatalTold_charge n hf)
  cases e with
  | cycles n => exact hcharge n
  | mem kind a =>
    unfold cpuEvent
    dsimp only
    split
    · exact hcharge (waitCycles s .fetch a)
    · exact hcharge (waitCycles s .read a)
    · exact hcharge (waitCycles s .write a)
    · exact .of_refuse _ hf
  | io write port data => exact .of_complete (outside_cpuIo _ hf) (fatalTold_cpuIo _ hf)
  | fin =>
    by_cases hcost : s.clk.instrCost = 0
    · rw [cpuEvent_fin_of_zero hcost]; exact .of_refuse _ hf
    · have hfin : cpuEvent .fin s = completeAgent (endInstr s) := if_neg hcost
      rw [hfin]; exact .of_complete rfl (fatalTold_of_running hf)

/-- What the CPU's work over the agent's items `taken` can do: one outcome for each event, and changes of memory only
where the agent's own items make them. -/
structure Worked (taken : List CpuInput) (s t : State) : Prop where
  frame : outside t = { outside s with mem := t.mem, pageMap := t.pageMap, agentReplies := t.agentReplies }
  told : ∃ told, t.agentReplies = s.agentReplies ++ told ∧ told.length = taken.countP isCpuEvent
  stores : (∀ c, CpuInput.collab c ∉ taken) → t.mem = s.mem ∧ t.pageMap = s.pageMap

theorem Worked.of_outside_eq {s t : State} (h : outside t = outside s) : Worked [] s t := by
  have hmem : t.mem = s.mem := congrArg Outside.mem h
  have hpageMap : t.pageMap = s.pageMap := congrArg Outside.pageMap h
  have htold : t.agentReplies = s.agentReplies := congrArg Outside.agentReplies h
  exact ⟨by rw [h, hmem, hpageMap, htold]; rfl, ⟨[], by rw [htold, List.append_nil], rfl⟩,
    fun _ => ⟨hmem, hpageMap⟩⟩

theorem Worked.trans {p q : List CpuInput} {s t u : State} (h : Worked p s t) (k : Worked q t u) :
    Worked (p ++ q) s u := by
  obtain ⟨told, htold, hlen⟩ := h.told
  obtain ⟨told', htold', hlen'⟩ := k.told
  refine ⟨by rw [k.frame, h.frame], ⟨told ++ told', ?_, ?_⟩, fun hnone => ?_⟩
  · rw [htold', htold, List.append_assoc]
  · rw [List.length_append, hlen, hlen', List.countP_append]
  · obtain ⟨hmem, hpageMap⟩ := h.stores fun c hc => hnone c (List.mem_append_left q hc)
    obtain ⟨hmem', hpageMap'⟩ := k.stores fun c hc => hnone c (List.mem_append_right p hc)
    exact ⟨hmem'.trans hmem, hpageMap'.trans hpageMap⟩

theorem EventEnd.worked {s t : State} (h : EventEnd s t) (e : CpuEvent) : Worked [.event e] s t := by
  obtain ⟨r, hr⟩ := h.told
  have hmem : t.mem = s.mem := congrArg Outside.mem hr
  have hpageMap : t.pageMap = s.pageMap := congrArg Outside.pageMap hr
  have htold : t.agentReplies = s.agentReplies ++ [r] := congrArg Outside.agentReplies hr
  exact ⟨by rw [hr, hmem, hpageMap, htold]; rfl, ⟨[r], htold, rfl⟩, fun _ => ⟨hmem, hpageMap⟩⟩

theorem worked_collaborate (c : Collab) (s : State) : Worked [.collab c] s (collaborate c s) := by
  have hframe : outside (collaborate c s) = { outside s with
      mem := (collaborate c s).mem, pageMap := (collaborate c s).pageMap
      agentReplies := (collaborate c s).agentReplies } := by
    rcases collaborate_spec c s with ⟨_, _, -, hs⟩ | ⟨_, _, -, hs⟩ <;> rw [hs] <;> rfl
  have htold : (collaborate c s).agentReplies = s.agentReplies := by
    rcases collaborate_spec c s with ⟨_, _, -, hs⟩ | ⟨_, _, -, hs⟩ <;> rw [hs]
  exact ⟨hframe, ⟨[], by rw [htold, List.append_nil], rfl⟩, fun hnone => absurd List.mem_cons_self (hnone c)⟩

theorem cpuInput_worked (i : CpuInput) {s : State} (hf : s.clk.faulted = false) :
    Worked [i] s (cpuInput i s) ∧ FatalTold (cpuInput i s) := by
  cases i with
  | event e => exact ⟨(cpuEvent_eventEnd e hf).worked e, (cpuEvent_eventEnd e hf).fatal⟩
  | collab c => exact ⟨worked_collaborate c s,
      fatalTold_of_running ((faulted_of_sched_eq (sched_collaborate c s)).trans hf)⟩

/-! ## CpuRun (R404) -/

/-- How a turn of the loop, or the loop itself, can end: stopped by a FatalAssertion that the host was told, or in a
block that runs. -/
structure TurnEnd (x : Turn × State) : Prop where
  stopped : x.1 = .stopped → ∃ a, x.2.reply = .fatal a
  running : x.1 ≠ .stopped → x.2.clk.faulted = false

theorem cpuDue_running {s : State} (hf : s.clk.faulted = false) :
    (cpuDue s).1 ≠ .stopped ∧ (cpuDue s).2.clk.faulted = false := by
  rcases cpuDue_spec s with ⟨-, e⟩ | ⟨-, -, e⟩ | ⟨-, -, -, e⟩ | ⟨-, -, -, e⟩ <;>
    exact e ▸ ⟨nofun, hf⟩

theorem cpuTurn_spec {s : State} (h : FatalTold s) : TurnEnd (cpuTurn s) ∧ outside (cpuTurn s).2 = outside s := by
  cases hf : s.clk.faulted with
  | true =>
    rw [cpuTurn_of_faulted hf]
    exact ⟨⟨fun _ => h hf, fun hne => absurd rfl hne⟩, rfl⟩
  | false =>
    obtain ⟨hturn, hrun⟩ := cpuDue_running ((faulted_of_sched_eq (sched_releaseHeld s)).trans hf)
    rw [cpuTurn_of_running hf]
    exact ⟨⟨fun hstop => absurd hstop hturn, fun _ => hrun⟩, (outside_cpuDue _).trans (outside_releaseHeld s)⟩

/-- What CpuRun can do: it works over the items it takes, leaves the others, and leaves none where it asks for more. -/
structure RunEnd (q : List CpuInput) (s : State) (x : Turn × State) : Prop extends TurnEnd x where
  worked : ∃ taken, q = taken ++ x.2.cpuIn ∧ Worked taken s x.2
  asked : x.1 = .wants → x.2.cpuIn = []

/-- The loop ends with the turn, and leaves the agent's items. -/
theorem TurnEnd.runEnd {s : State} {x : Turn × State} (h : TurnEnd x) (ho : outside x.2 = outside s)
    (q : List CpuInput) (hq : x.1 = .wants → q = []) : RunEnd q s (x.1, x.2.setCpuIn q) where
  stopped := h.stopped
  running := h.running
  worked := ⟨[], rfl, .of_outside_eq ho⟩
  asked := hq

theorem cpuRun_runEnd (q : List CpuInput) {s : State} (h : FatalTold s) : RunEnd q s (cpuRun q s) := by
  induction q generalizing s with
  | nil =>
    obtain ⟨hturn, ho⟩ := cpuTurn_spec h
    exact hturn.runEnd ho [] fun _ => rfl
  | cons i q ih =>
    obtain ⟨hturn, ho⟩ := cpuTurn_spec h
    rcases hend : cpuTurn s with ⟨turn, t⟩
    rw [hend] at hturn ho
    cases turn with
    | wants =>
      obtain ⟨hitem, hfatal⟩ := cpuInput_worked i (hturn.running nofun)
      obtain ⟨hrest, ⟨taken, htaken, hwork⟩, hasked⟩ := ih hfatal
      rw [cpuRun_cons_of_wants i q hend]
      exact ⟨hrest, ⟨i :: taken, congrArg (i :: ·) htaken, ((Worked.of_outside_eq ho).trans hitem).trans hwork⟩,
        hasked⟩
    | done => rw [cpuRun_of_done _ hend]; exact hturn.runEnd ho (i :: q) nofun
    | stopped => rw [cpuRun_of_stopped _ hend]; exact hturn.runEnd ho (i :: q) nofun

/-! ## The video advance (R410, R500) -/

theorem openEvents_samples (v : Vid) : (openEvents v).countP Event.isSample = 0 := by
  unfold openEvents
  split
  · split <;> rfl
  · rfl

theorem outside_lineStart (s : State) : outside (lineStart s) = outside s := by
  rw [lineStart_eq]; rfl

theorem outside_margins (s : State) : outside (margins s) = outside s := by
  rw [margins_eq]
  exact outside_append rfl (openEvents_samples _) rfl

theorem outside_slotFetch (s : State) : outside (slotFetch s) = outside s := by
  unfold slotFetch
  split
  · split
    · rw [lpbFetch_eq]; rfl
    · rfl
  · exact outside_margins s

theorem outside_slotGroup (s : State) : outside (slotGroup s) = outside s := by
  rw [slotGroup_eq]; rfl

theorem outside_lineSetup (s : State) : outside (lineSetup s) = outside s := by
  unfold lineSetup
  split <;> rfl

/-- The raster position one slot later. -/
def Outside.advance (o : Outside) : Outside :=
  { o with slot := if o.slot.toNat + 1 = o.params.nslot then 0 else o.slot + 1 }

/-- The Scanline and the interrupt events of EndOfLine are no samples. -/
theorem lineEndEvents_samples (s : State) :
    ([Event.scanline s.vid.lineBuf s.vid.lineBuf.length] ++ irqEvents (s.intr.drive 2 s.vid.vint)).countP
      Event.isSample = 0 := by
  rw [List.countP_append, irqEvents_samples]; rfl

theorem outside_lineEnd (s : State) :
    outside ((endOfLine s).setVid { (endOfLine s).vid with slot := 0 }) = { outside s with slot := 0 } := by
  rw [endOfLine_eq]
  refine outside_append (s := s.setVid { s.vid with slot := 0 }) ?_ (lineEndEvents_samples s) rfl
  exact List.append_assoc _ _ _

theorem outside_nextSlot (s : State) : outside (nextSlot s) = (outside s).advance := by
  by_cases h : s.vid.slot.toNat + 1 = s.params.nslot
  · have hadvance : (outside s).advance = { outside s with slot := 0 } :=
      congrArg (fun slot => { outside s with slot := slot }) (if_pos h)
    rw [nextSlot, if_pos h, outside_lineEnd, hadvance]
  · have hadvance : (outside s).advance = { outside s with slot := s.vid.slot + 1 } :=
      congrArg (fun slot => { outside s with slot := slot }) (if_neg h)
    rw [nextSlot, if_neg h, hadvance]; rfl

/-- VIDEO_SLOT moves the raster by one slot, and is quiet otherwise. -/
theorem outside_videoSlot (s : State) : outside (videoSlot s) = (outside s).advance := by
  have hgroup : outside (slotGroup (slotFetch (lineStart s))) = outside s :=
    ((outside_slotGroup _).trans (outside_slotFetch _)).trans (outside_lineStart s)
  rw [videoSlot, slotEnd, outside_nextSlot, ← hgroup]
  split
  · rw [outside_lineSetup]
  · rfl

/-! ## The end of a slot step (R402) -/

/-- What a slot step that starts in s and ends in t has done: the clauses of SlotStepAdvancesOnce that hold of a step
that goes on as well. -/
structure AdvancesOnce (s t : State) : Prop where
  outcome : t.reply = .completed ∨ t.reply = .pending ∨ ∃ a, t.reply = .fatal a
  completed : t.reply = .completed →
    t.slotOpen = false ∧ t.clk.slotCount = s.clk.slotCount + 1 ∧
    t.vid.slot = if s.vid.slot.toNat + 1 = s.params.nslot then 0 else s.vid.slot + 1
  pending : t.reply = .pending →
    t.slotOpen = true ∧ t.cpuIn = [] ∧ t.clk.slotCount = s.clk.slotCount ∧ t.vid.slot = s.vid.slot
  fatal : ∀ a, t.reply = .fatal a → t.clk.slotCount = s.clk.slotCount ∧ t.vid.slot = s.vid.slot
  taken : ∃ taken, s.cpuIn = taken ++ t.cpuIn ∧
    ∃ told, t.agentReplies = s.agentReplies ++ told ∧ told.length = taken.countP isCpuEvent
  memory : (∀ c, CpuInput.collab c ∉ s.cpuIn) → t.mem = s.mem ∧ t.pageMap = s.pageMap

/-- What every end of a slot step has in common: the raster as told, and what the CPU's work took and told. -/
structure StepEnd (s t : State) (slotCount : BitVec 64) (slot : BitVec 6) : Prop where
  frame : outside t = { outside s with
    slotCount := slotCount, slot := slot, mem := t.mem, pageMap := t.pageMap, agentReplies := t.agentReplies }
  taken : ∃ taken, s.cpuIn = taken ++ t.cpuIn ∧
    ∃ told, t.agentReplies = s.agentReplies ++ told ∧ told.length = taken.countP isCpuEvent
  memory : (∀ c, CpuInput.collab c ∉ s.cpuIn) → t.mem = s.mem ∧ t.pageMap = s.pageMap

section End

variable {s t : State} {slotCount : BitVec 64} {slot : BitVec 6}

theorem StepEnd.slotCount_eq (h : StepEnd s t slotCount slot) : t.clk.slotCount = slotCount :=
  congrArg Outside.slotCount h.frame

theorem StepEnd.slot_eq (h : StepEnd s t slotCount slot) : t.vid.slot = slot := congrArg Outside.slot h.frame

theorem StepEnd.of_completed (hreply : t.reply = .completed) (hclosed : t.slotOpen = false)
    (h : StepEnd s t (s.clk.slotCount + 1) (outside s).advance.slot) : AdvancesOnce s t where
  outcome := .inl hreply
  completed := fun _ => ⟨hclosed, h.slotCount_eq, h.slot_eq⟩
  pending := by rw [hreply]; nofun
  fatal := by rw [hreply]; nofun
  taken := h.taken
  memory := h.memory

theorem StepEnd.of_pending (hreply : t.reply = .pending) (hopen : t.slotOpen = true) (hcpuIn : t.cpuIn = [])
    (h : StepEnd s t s.clk.slotCount s.vid.slot) : AdvancesOnce s t where
  outcome := .inr (.inl hreply)
  completed := by rw [hreply]; nofun
  pending := fun _ => ⟨hopen, hcpuIn, h.slotCount_eq, h.slot_eq⟩
  fatal := by rw [hreply]; nofun
  taken := h.taken
  memory := h.memory

theorem StepEnd.of_fatal {a : Accumulator} (hreply : t.reply = .fatal a)
    (h : StepEnd s t s.clk.slotCount s.vid.slot) : AdvancesOnce s t where
  outcome := .inr (.inr ⟨a, hreply⟩)
  completed := by rw [hreply]; nofun
  pending := by rw [hreply]; nofun
  fatal := fun _ _ => ⟨h.slotCount_eq, h.slot_eq⟩
  taken := h.taken
  memory := h.memory

end End

/-- The end of a step whose CPU work ended in w. -/
theorem Worked.stepEnd {taken : List CpuInput} {s w t : State} {slotCount : BitVec 64} {slot : BitVec 6}
    (h : Worked taken s w) (hq : s.cpuIn = taken ++ w.cpuIn) (hcpuIn : t.cpuIn = w.cpuIn)
    (ho : outside t = { outside w with slotCount := slotCount, slot := slot }) : StepEnd s t slotCount slot := by
  have hmem : t.mem = w.mem := congrArg Outside.mem ho
  have hpageMap : t.pageMap = w.pageMap := congrArg Outside.pageMap ho
  have htold : t.agentReplies = w.agentReplies := congrArg Outside.agentReplies ho
  refine ⟨by rw [ho, h.frame, hmem, hpageMap, htold], ⟨taken, by rw [hcpuIn, hq], by rw [htold]; exact h.told⟩,
    fun hnone => ?_⟩
  rw [hmem, hpageMap]
  exact h.stores fun c hc => hnone c (hq ▸ List.mem_append_left _ hc)

section Done

variable {w : State} (hf : w.clk.faulted = false)
include hf

theorem outside_slotFinish_done :
    outside (slotFinish (.done, w)) = { (outside w).advance with slotCount := w.clk.slotCount + 1 } := by
  have hslot : outside (videoSlot { w with slotOpen := false }) = (outside w).advance := outside_videoSlot _
  rw [slotFinish_done hf, ← hslot]
  rfl

theorem slotFinish_done_reply : (slotFinish (.done, w)).reply = .completed := by
  rw [slotFinish_done hf]

theorem slotFinish_done_slotOpen : (slotFinish (.done, w)).slotOpen = false := by
  rw [slotFinish_done hf, videoSlot_writes]

theorem slotFinish_done_cpuIn : (slotFinish (.done, w)).cpuIn = w.cpuIn := by
  rw [slotFinish_done hf, videoSlot_writes]

end Done

/-- A slot step ends as CpuRun ended: with the video advance, with nothing more, or waiting. -/
theorem slotFinish_spec {s : State} {x : Turn × State} (h : RunEnd s.cpuIn s x) :
    AdvancesOnce s (slotFinish x) ∧ ∃ slotCount slot, StepEnd s (slotFinish x) slotCount slot := by
  obtain ⟨turn, w⟩ := x
  obtain ⟨⟨hstopped, hrunning⟩, ⟨taken, htaken, hwork⟩, hasked⟩ := h
  have hcount : w.clk.slotCount = s.clk.slotCount := congrArg Outside.slotCount hwork.frame
  have hslot : w.vid.slot = s.vid.slot := congrArg Outside.slot hwork.frame
  cases turn with
  | done =>
    have hf : w.clk.faulted = false := hrunning nofun
    have hadvance : (outside w).advance.slot = (outside s).advance.slot :=
      congrArg (fun o => o.advance.slot) hwork.frame
    have hend : StepEnd s (slotFinish (.done, w)) (s.clk.slotCount + 1) (outside s).advance.slot :=
      hwork.stepEnd htaken (slotFinish_done_cpuIn hf)
        (by rw [outside_slotFinish_done hf, ← hcount, ← hadvance]; rfl)
    exact ⟨hend.of_completed (slotFinish_done_reply hf) (slotFinish_done_slotOpen hf), _, _, hend⟩
  | stopped =>
    obtain ⟨a, ha⟩ := hstopped rfl
    have hend : StepEnd s (slotFinish (.stopped, w)) s.clk.slotCount s.vid.slot :=
      hwork.stepEnd htaken rfl (by rw [← hcount, ← hslot]; rfl)
    exact ⟨hend.of_fatal ha, _, _, hend⟩
  | wants =>
    have hend : StepEnd s (slotFinish (.wants, w)) s.clk.slotCount s.vid.slot :=
      hwork.stepEnd htaken rfl (by rw [← hcount, ← hslot]; rfl)
    exact ⟨hend.of_pending rfl rfl (hasked rfl), _, _, hend⟩

theorem slotRun_spec {s : State} (hf : s.clk.faulted = false) :
    AdvancesOnce s (slotRun s) ∧ ∃ slotCount slot, StepEnd s (slotRun s) slotCount slot :=
  slotFinish_spec (cpuRun_runEnd s.cpuIn (fatalTold_of_running hf))

/-! ## SLOT_STEP from its start (R402, R403, R414) -/

/-- The state b of a slot step that started in s, before its CPU work: the observers have been called, and sound ticks
may have been performed. -/
structure Started (s b : State) : Prop where
  frame : outside b = { outside s with observed := b.observed, samples := samples b }
  cpuIn : b.cpuIn = s.cpuIn
  observed : b.observed = s.observed ++ s.params.observers.map fun o => ⟨o, s.vid.line, s.vid.slot⟩

theorem started_callObservers (s : State) : Started s (callObservers s) := ⟨rfl, rfl, rfl⟩

/-- Changes of the sound stage, and of CLK but for the slot count, keep a start. -/
theorem Started.of_sound {s b t : State} (h : Started s b) (ht : SameButSound b t) : Started s t := by
  have hframe : outside t = { outside b with samples := samples t } := (congrArg outside ht).trans rfl
  have hcpuIn : t.cpuIn = b.cpuIn := (congrArg State.cpuIn ht).trans rfl
  have hobserved : t.observed = b.observed := congrArg Outside.observed hframe
  exact ⟨by rw [hframe, h.frame, hobserved], hcpuIn.trans h.cpuIn, hobserved.trans h.observed⟩

theorem soundCatchUp_of_overflow {s : State} (h : fitsS64 (s.clk.accSnd + s.clk.rSnd) = false) :
    soundCatchUp s = raiseFatal .snd s := by
  rw [soundCatchUp, updateSnd, if_neg (by rw [h]; decide)]
  exact unlessFatal_of_faulted _ rfl

/-- A slot step stops at an accumulator that overflows, or goes on with its CPU work. -/
theorem slotStep_spec {s : State} (hf : s.clk.faulted = false) :
    ∃ b, Started s b ∧
      ((∃ a, slotStep s = raiseFatal a b) ∨ (b.clk.faulted = false ∧ slotStep s = slotRun b)) := by
  cases hsnd : fitsS64 (s.clk.accSnd + s.clk.rSnd) with
  | false =>
    refine ⟨callObservers s, started_callObservers s, .inl ⟨.snd, ?_⟩⟩
    rw [slotStep, soundCatchUp_of_overflow (s := callObservers s) hsnd]
    exact unlessFatal_of_faulted _ rfl
  | true =>
    have hstart := (started_callObservers s).of_sound (soundStage_writes hf hsnd)
    cases hcpu : fitsS64 (s.clk.accCpu + s.clk.rCpu) with
    | true =>
      have hbudgeted : Started s (budgeted s) := ⟨hstart.frame, hstart.cpuIn, hstart.observed⟩
      exact ⟨_, hbudgeted, .inr ⟨soundStage_running hf hsnd, slotStep_eq_slotRun hf hsnd hcpu⟩⟩
    | false => exact ⟨_, hstart, .inl ⟨.cpu, slotStep_eq_raiseFatal hf hsnd hcpu⟩⟩

/-- What a step has done since its start, it has done since before the start. -/
theorem Started.advancesOnce {s b t : State} (h : Started s b) (ht : AdvancesOnce b t) : AdvancesOnce s t := by
  obtain ⟨hframe, hcpuIn, -⟩ := h
  simp only [outside, Outside.mk.injEq] at hframe
  obtain ⟨hparams, hcount, hslot, -, hmem, hpageMap, -, htold, -⟩ := hframe
  obtain ⟨houtcome, hcompleted, hpending, hfatal, htaken, hmemory⟩ := ht
  rw [hcount, hslot] at hpending hfatal
  rw [hcount, hslot, hparams] at hcompleted
  rw [hcpuIn, htold] at htaken
  rw [hcpuIn, hmem, hpageMap] at hmemory
  exact ⟨houtcome, hcompleted, hpending, hfatal, htaken, hmemory⟩

theorem advancesOnce_raiseFatal (a : Accumulator) (s : State) : AdvancesOnce s (raiseFatal a s) := by
  have hwork : Worked [] s (raiseFatal a s) := .of_outside_eq rfl
  exact (hwork.stepEnd rfl rfl rfl).of_fatal rfl

/-- The clauses of SlotStepAdvancesOnce, in its words. -/
theorem AdvancesOnce.clauses {s t : State} (h : AdvancesOnce s t) :
    (t.reply = .completed ∨ t.reply = .pending ∨ ∃ a, t.reply = .fatal a) ∧
    (t.reply = .completed →
      t.slotOpen = false ∧ t.clk.slotCount = s.clk.slotCount + 1 ∧
      t.vid.slot = if s.vid.slot.toNat + 1 = s.params.nslot then 0 else s.vid.slot + 1) ∧
    (t.reply = .pending →
      t.slotOpen = true ∧ t.cpuIn = [] ∧ t.clk.slotCount = s.clk.slotCount ∧ t.vid.slot = s.vid.slot) ∧
    (∀ a, t.reply = .fatal a → t.clk.slotCount = s.clk.slotCount ∧ t.vid.slot = s.vid.slot) ∧
    (∃ taken, s.cpuIn = taken ++ t.cpuIn ∧
      ∃ told, t.agentReplies = s.agentReplies ++ told ∧ told.length = taken.countP isCpuEvent) ∧
    ((∀ c, CpuInput.collab c ∉ s.cpuIn) →
      ∀ a, Memory.read t.mem a = Memory.read s.mem a ∧ Memory.read t.pageMap a = Memory.read s.pageMap a) := by
  refine ⟨h.outcome, h.completed, h.pending, h.fatal, h.taken, fun hnone a => ?_⟩
  obtain ⟨hmem, hpageMap⟩ := h.memory hnone
  rw [hmem, hpageMap]
  exact ⟨rfl, rfl⟩

theorem slotStep_advancesOnce {s : State} (hf : s.clk.faulted = false) :
    (slotStep s).observed = s.observed ++ s.params.observers.map (fun o => ⟨o, s.vid.line, s.vid.slot⟩) ∧
    AdvancesOnce s (slotStep s) := by
  obtain ⟨b, hstart, ⟨a, hstep⟩ | ⟨hrun, hstep⟩⟩ := slotStep_spec hf <;> rw [hstep]
  · exact ⟨hstart.observed, hstart.advancesOnce (advancesOnce_raiseFatal a b)⟩
  · obtain ⟨honce, _, _, hend⟩ := slotRun_spec hrun
    exact ⟨(congrArg Outside.observed hend.frame).trans hstart.observed, hstart.advancesOnce honce⟩

/-- Settles O46: a step that starts is brought to its CPU work, and one that goes on is there. -/
theorem slotStepAdvancesOnce : Obligations.SlotStepAdvancesOnce := by
  unfold Obligations.SlotStepAdvancesOnce
  intro s hf
  refine ⟨fun hc => ?starts, fun hopen => ?goesOn⟩
  case starts =>
    obtain ⟨hobserved, honce⟩ := slotStep_advancesOnce hf
    exact ⟨slotStep s, acceptConfigured_of_running slotStep hf hc, hobserved, honce.clauses⟩
  case goesOn =>
    obtain ⟨honce, _, _, hend⟩ := slotRun_spec hf
    exact ⟨slotRun s, step_of_open hopen, congrArg Outside.observed hend.frame, congrArg Outside.hostIn hend.frame,
      congrArg Outside.samples hend.frame, honce.clauses⟩

end Sys2Proof.Proofs
end

section
/-! PROOFS. Construction (40_scheduler.md R401; 70_reset_and_hazards.md R1001; O54): the power-on state, and the
invariants there. -/

namespace Sys2Proof.Proofs

open Sys2Proof Sys2Proof.Machine

/-! ## Construction (R401) -/

theorem construct_of_legal {p : Params} (h : p.legal) : construct p = .ok (State.powerOn p) := if_pos h

theorem construct_of_illegal {p : Params} (h : ¬p.legal) : construct p = .error .ce5 := if_neg h

/-! ## The invariants at power-on (R1001) -/

/-- A line of at least one slot is all that the video invariant asks of the parameters. -/
theorem powerOn_videoInv {p : Params} (h : 0 < p.nslot) : VideoInv (State.powerOn p) where
  slot := h
  block := .inl rfl
  fetching := fun _ => Nat.zero_le 7
  lines := Nat.zero_le 256
  display := fun _ _ => rfl
  base := (by decide : Vid.reset.lptBase = lptBaseOf Vid.reset.lptHi Vid.reset.lptLo)
  groups := rfl

/-- A timer half period of at least one tick is all that the interrupt unit asks of them. -/
theorem powerOn_irqInv {p : Params} (h : 1 ≤ p.timerHalf) : IrqInv (State.powerOn p) where
  line := (by decide : Intr.reset.irq = Intr.reset.wanted)
  timer := h

theorem powerOn_outerInv {p : Params} (h : p.legal) : OuterInv (State.powerOn p) where
  params := h
  mem := reset_memory_wf.1
  pageMap := reset_memory_wf.2

theorem powerOn_inv {p : Params} (h : p.legal) : Inv (State.powerOn p) := by
  obtain ⟨hacc, hconfig⟩ := (steady_iff _).mp (powerOn_steady p)
  have ⟨⟨hslots, _⟩, _, _, _, _, _, _, _, _, htimer⟩ := h
  exact {
    outer := powerOn_outerInv h
    acc := hacc
    config := hconfig
    video := powerOn_videoInv (by omega)
    noise := (noiseInv_iff _).mpr reset_lfsrOk
    irq := powerOn_irqInv htimer }

theorem powerOn_traceInv (p : Params) : TraceInv (State.powerOn p) := rfl

theorem testParams_legal : Config.testParams.legal := by decide

/-! ## RESET gives the power-on state (70_reset_and_hazards.md R1000) -/

/-- RESET's units do not depend on the state it starts from. -/
theorem exec_reset (s : State) :
    exec .reset s = .next { s with
      clk := Clk.reset, vid := Vid.reset, snd := Snd.reset, intr := Intr.reset, slotOpen := false
      trace := s.trace ++ (if s.intr.irq then [.irqClear] else []), reply := .completed } := by
  have hreset : exec .reset s = .next (complete (resetBlock s)) := rfl
  rw [hreset, resetBlock_eq]
  exact congrArg _ (complete_of_running rfl)

/-- Settles O54: the reset values meet each invariant, with what it asks of the parameters. -/
theorem powerOn : Obligations.PowerOn := by
  unfold Obligations.PowerOn
  refine ⟨fun p h => ⟨construct_of_legal h, powerOn_inv h, powerOn_traceInv p⟩, fun p => construct_of_illegal,
    fun s t h => ?reset, powerOn_inv testParams_legal, powerOn_traceInv _⟩
  case reset =>
    rw [exec_reset] at h
    injection h with h
    rw [← h]
    exact ⟨rfl, rfl, rfl, rfl⟩

end Sys2Proof.Proofs
end

section
/-! PROOFS. The wait-state arbiter (41_wait_states.md; O48, O49): the slot position and its phase step, the wait of each
kind of access, and the query that answers it. -/

namespace Sys2Proof.Proofs

open Sys2Proof Sys2Proof.Machine

/-! ## The slot position (R452) -/

section Position

variable {c : Clk} (hr : 1 ≤ c.rCpu)
include hr

theorem slotPosition_coe : (slotPosition c : Int) = (c.rCpu - c.accCpu) % c.rCpu :=
  Int.toNat_of_nonneg (Int.emod_nonneg _ (by omega))

theorem slotPosition_lt : slotPosition c < c.rCpu := by
  have hlt : ((c.rCpu : Int) - c.accCpu) % c.rCpu < c.rCpu := Int.emod_lt_of_pos _ (by omega)
  rw [← slotPosition_coe hr] at hlt
  exact Int.ofNat_lt.mp hlt

end Position

/-! ## Multiplication by a rounded reciprocal (R453)

A position P below the ratio r stands for the step floor(P·N / r) of N. Its approximation is floor(P·q / M), where the
reciprocal q = floor(N·M / r) is a whole number of M-ths. -/

section Reciprocal

variable (P N M r : Nat)

theorem mul_reciprocal_div_le (hM : 0 < M) : P * (N * M / r) / M ≤ P * N / r :=
  calc P * (N * M / r) / M
      ≤ P * (N * M) / r / M := Nat.div_le_div_right (Nat.mul_div_le_mul_div_assoc P (N * M) r)
    _ = P * N * M / M / r := by rw [Nat.div_div_eq_div_mul, Nat.div_div_eq_div_mul, Nat.mul_comm r M, Nat.mul_assoc]
    _ = P * N / r := by rw [Nat.mul_div_cancel _ hM]

/-- What the rounding of the reciprocal loses, less than one M-th for each unit of P, adds up to at most one step. -/
theorem div_le_mul_reciprocal_div_succ (hM : 0 < M) (hr : 0 < r) (hP : P ≤ M) :
    P * N / r ≤ P * (N * M / r) / M + 1 := by
  have hreciprocal : N * M ≤ (N * M / r + 1) * r := (Nat.lt_mul_of_div_lt (Nat.lt_succ_self _) hr).le
  have hscaled : P * N / r * M * r ≤ (P * (N * M / r) + M) * r :=
    calc P * N / r * M * r
        = P * N / r * r * M := Nat.mul_right_comm _ _ _
      _ ≤ P * N * M := Nat.mul_le_mul_right M (Nat.div_mul_le_self _ _)
      _ = P * (N * M) := Nat.mul_assoc _ _ _
      _ ≤ P * ((N * M / r + 1) * r) := Nat.mul_le_mul_left P hreciprocal
      _ = (P * (N * M / r) + P) * r := by rw [← Nat.mul_assoc, Nat.mul_succ]
      _ ≤ (P * (N * M / r) + M) * r := Nat.mul_le_mul_right r (Nat.add_le_add_left hP _)
  calc P * N / r
      ≤ (P * (N * M / r) + M) / M := (Nat.le_div_iff_mul_le hM).mpr (Nat.le_of_mul_le_mul_right hscaled hr)
    _ = P * (N * M / r) / M + 1 := Nat.add_div_right _ hM

end Reciprocal

/-! ## The phase step (R453) -/

section Phase

variable {c : Clk} {n : Nat} (hrecip : c.recip = n * 2 ^ 64 / c.rCpu)
include hrecip

theorem phase_eq : phase c = slotPosition c * (n * 2 ^ 64 / c.rCpu) / 2 ^ 64 :=
  congrArg (fun q => slotPosition c * q / 2 ^ 64) hrecip

theorem phase_le_exact : phase c ≤ slotPosition c * n / c.rCpu := by
  rw [phase_eq hrecip]
  exact mul_reciprocal_div_le _ _ _ _ (by decide)

theorem exact_le_phase_succ (hr : 1 ≤ c.rCpu) (hsmall : c.rCpu < 2 ^ 56) :
    slotPosition c * n / c.rCpu ≤ phase c + 1 := by
  have hpos := slotPosition_lt hr
  rw [phase_eq hrecip]
  exact div_le_mul_reciprocal_div_succ _ _ _ _ (by decide) hr (by omega)

theorem phase_lt_steps (hr : 1 ≤ c.rCpu) (hn : 1 ≤ n) : phase c < n :=
  (phase_le_exact hrecip).trans_lt
    (Nat.div_lt_of_lt_mul (Nat.mul_lt_mul_of_pos_right (slotPosition_lt hr) hn))

end Phase

/-! ## What a wait depends on, and its period (R457) -/

/-- A wait reads no more of the clock than the phase step and the memory mode with its constant. -/
theorem waitCycles_of_phase_eq {s : State} {c : Clk} (hphase : phase c = phase s.clk)
    (hmode : c.memMode = s.clk.memMode) (hnwait : c.nwait = s.clk.nwait) (k : AccessKind) (a : Half) :
    waitCycles { s with clk := c } k a = waitCycles s k a := by
  have hio : ioWait { s with clk := c } = ioWait s := by simp only [ioWait, hphase]
  have hcontended : contendedWait { s with clk := c } k = contendedWait s k := by simp only [contendedWait, hphase]
  have hother : nonContendedWait c k = nonContendedWait s.clk k := by simp only [nonContendedWait, hmode, hnwait]
  have hmem : memWait { s with clk := c } k a = memWait s k a := by
    simp only [memWait, hcontended, hother]; rfl
  cases k with
  | io => exact hio
  | fetch | read | write => exact hmem

/-- The clock one slot of CPU time later. -/
abbrev slotLater (c : Clk) : Clk := { c with accCpu := c.accCpu + c.rCpu }

theorem slotPosition_slotLater (c : Clk) : slotPosition (slotLater c) = slotPosition c := by
  have hmod : ((c.rCpu : Int) - (c.accCpu + c.rCpu)) % c.rCpu = (c.rCpu - c.accCpu) % c.rCpu := by
    rw [← Int.sub_sub, Int.sub_emod_right]
  exact congrArg Int.toNat hmod

theorem phase_slotLater (c : Clk) : phase (slotLater c) = phase c :=
  congrArg (fun p => p * c.recip / 2 ^ 64) (slotPosition_slotLater c)

/-- Settles O49: the reciprocal's rounding costs at most a step, and a whole slot leaves the position as it is. -/
theorem phaseStep : Obligations.PhaseStep := by
  unfold Obligations.PhaseStep
  intro s hr hsmall hn hrecip
  exact ⟨slotPosition_coe hr, slotPosition_lt hr, phase_le_exact hrecip, exact_le_phase_succ hrecip hr hsmall,
    phase_lt_steps hrecip hr hn, slotPosition_slotLater s.clk,
    waitCycles_of_phase_eq (phase_slotLater s.clk) rfl rfl⟩

/-! ## The wait of each kind of access (R451, R454 to R456) -/

theorem pageSeg_eq (s : State) (a : Half) :
    pageSeg s a = Memory.read s.pageMap (BitVec.ofNat 16 (a.toNat / 2 ^ s.params.pageShift)) := by
  have hpage : a >>> s.params.pageShift = BitVec.ofNat 16 (a.toNat / 2 ^ s.params.pageShift) := by
    rw [← Nat.shiftRight_eq_div_pow, ← BitVec.toNat_ushiftRight, BitVec.ofNat_toNat, BitVec.setWidth_eq]
  rw [pageSeg, hpage]

theorem waitCycles_of_mem {k : AccessKind} (hk : k ≠ .io) (s : State) (a : Half) :
    waitCycles s k a = memWait s k a := by
  cases k with
  | io => exact absurd rfl hk
  | fetch | read | write => rfl

theorem waitCycles_of_contended {s : State} {k : AccessKind} {a : Half} (hk : k ≠ .io)
    (h : pageSeg s a ∈ s.params.contended) : waitCycles s k a = contendedWait s k :=
  (waitCycles_of_mem hk s a).trans (if_pos h)

theorem waitCycles_of_notContended {s : State} {k : AccessKind} {a : Half} (hk : k ≠ .io)
    (h : pageSeg s a ∉ s.params.contended) : waitCycles s k a = nonContendedWait s.clk k :=
  (waitCycles_of_mem hk s a).trans (if_neg h)

theorem contendedWait_fetch (s : State) :
    contendedWait s .fetch = s.params.contFetch.getD (phase s.clk) 0 := if_pos rfl

theorem contendedWait_data {k : AccessKind} (hk : k ≠ .fetch) (s : State) :
    contendedWait s k = s.params.contData.getD (phase s.clk) 0 := if_neg hk

theorem nonContendedWait_fetch (c : Clk) :
    nonContendedWait c .fetch = if c.memMode = .never then 0 else c.nwait := by
  unfold nonContendedWait
  cases c.memMode <;> rfl

theorem nonContendedWait_data {k : AccessKind} (hk : k ≠ .fetch) (c : Clk) :
    nonContendedWait c k = if c.memMode = .always then c.nwait else 0 := by
  unfold nonContendedWait
  cases c.memMode with
  | always | never => rfl
  | fetchOnly => exact if_neg hk

/-! ## WAIT_QUERY (R458) -/

theorem waitQuery_of_running {s : State} {k : AccessKind} {a : Half} {b : Byte} (hf : s.clk.faulted = false)
    (hc : s.clk.configured = true) (hwait : waitCycles s k a = b) :
    waitQuery k a s = .next { s with reply := .byte b } := by
  rw [← hwait]
  exact acceptConfigured_of_running (fun s => s.setReply (.byte (waitCycles s k a))) hf hc

/-- Settles O48: a query answers the wait of its kind and page. -/
theorem waitQuery : Obligations.WaitQuery := by
  unfold Obligations.WaitQuery
  intro s a port hf hc
  dsimp only
  rw [← pageSeg_eq]
  refine ⟨waitQuery_of_running hf hc rfl, fun hpage => ?contended, fun hpage => ?other⟩
  case contended =>
    have answer {k b} (hk : k ≠ .io) (hwait : contendedWait s k = b) :=
      waitQuery_of_running hf hc ((waitCycles_of_contended hk hpage).trans hwait)
    exact ⟨answer (by decide) (contendedWait_fetch s), answer (by decide) (contendedWait_data (by decide) s),
      answer (by decide) (contendedWait_data (by decide) s)⟩
  case other =>
    have answer {k b} (hk : k ≠ .io) (hwait : nonContendedWait s.clk k = b) :=
      waitQuery_of_running hf hc ((waitCycles_of_notContended hk hpage).trans hwait)
    exact ⟨answer (by decide) (nonContendedWait_fetch s.clk),
      answer (by decide) (nonContendedWait_data (by decide) s.clk),
      answer (by decide) (nonContendedWait_data (by decide) s.clk)⟩

end Sys2Proof.Proofs
end

section
/-! PROOFS. The video slot engine (42_video_engine.md): the parts of a slot, and the video invariant over every step (R530,
R540, R541; O57). -/

namespace Sys2Proof.Proofs

open Sys2Proof Sys2Proof.Machine

/-! ## A slot up to its group (R500) -/

/-- A slot's work up to its group: what slotEnd then ends. -/
def slotWork (s : State) : State := slotGroup (slotFetch (lineStart s))

theorem videoSlot_eq_slotEnd (s : State) : videoSlot s = slotEnd (slotWork s) := rfl

/-- Byte i of the LPB that a state fetches (R510). -/
def lpbSource (s : State) (i : Nat) : Byte := Memory.read s.mem (s.vid.lptCur + BitVec.ofNat 16 i)

/-- lpb_buf with the two bytes that slot k fetches (R510). -/
def lpbFetched (s : State) (k : Nat) : Vector Byte 16 :=
  (s.vid.lpbBuf.setIfInBounds (2 * k) (lpbSource s (2 * k))).setIfInBounds (2 * k + 1) (lpbSource s (2 * k + 1))

section Work

variable {s : State}

/-- Slot 0 clears display_en, with the slot as a number. -/
theorem lineStart_toNat (s : State) :
    lineStart s =
      { s with vid := { s.vid with displayEn := if s.vid.slot.toNat = 0 then false else s.vid.displayEn } } := by
  have hzero : s.vid.slot = 0 ↔ s.vid.slot.toNat = 0 := BitVec.toNat_inj.symm
  rw [lineStart_eq, if_congr hzero rfl rfl]

/-- The key of a slot below 8 is BORDER's, whatever display_en and the LPB are. -/
theorem decodeKey_renderKey_of_low (hlow : s.vid.slot.toNat ≤ 7) : decodeKey (renderKey s) = .border := by
  have hinactive : (s.vid.displayEn && decide (8 ≤ s.vid.slot.toNat)) = false := by
    rw [decide_eq_false (by omega), Bool.and_false]
  have hbit : (renderKey s).getLsbD 9 = false := by
    rw [renderKey, hinactive]
    simp only [BitVec.getLsbD_append]
    rfl
  rw [decodeKey, hbit]; rfl

theorem slotGroup_of_low (hlow : s.vid.slot.toNat ≤ 7) :
    slotGroup s = { s with vid := { s.vid with lineBuf := s.vid.lineBuf ++ [1, s.vid.border] } } := by
  rw [slotGroup, render, decodeKey_renderKey_of_low hlow]; rfl

/-- Slots 0 to 7 of a line that starts a block: two LPB bytes and the border group. -/
theorem slotWork_of_fetching (hlow : s.vid.slot.toNat ≤ 7) (hneed : s.vid.needLpb = true) :
    slotWork s = { s with vid := { s.vid with
      displayEn := if s.vid.slot.toNat = 0 then false else s.vid.displayEn
      lpbBuf := lpbFetched s s.vid.slot.toNat
      busLast := lpbSource s (2 * s.vid.slot.toNat + 1)
      lineBuf := s.vid.lineBuf ++ [1, s.vid.border] } } := by
  have hfetch : slotFetch (lineStart s) = lpbFetch (lineStart s) := by
    rw [lineStart_toNat, slotFetch, if_pos hlow, if_pos hneed]
  rw [slotWork, hfetch, lineStart_toNat, lpbFetch_eq]
  exact slotGroup_of_low hlow

/-- Slots 0 to 7 of a line that continues a block: the border group alone. -/
theorem slotWork_of_continuing (hlow : s.vid.slot.toNat ≤ 7) (hneed : s.vid.needLpb = false) :
    slotWork s = { s with vid := { s.vid with
      displayEn := if s.vid.slot.toNat = 0 then false else s.vid.displayEn
      lineBuf := s.vid.lineBuf ++ [1, s.vid.border] } } := by
  have hfetch : slotFetch (lineStart s) = lineStart s := by
    rw [lineStart_toNat, slotFetch, if_pos hlow, if_neg (by rw [hneed]; decide)]
  rw [slotWork, hfetch, lineStart_toNat]
  exact slotGroup_of_low hlow

/-- A slot past 7: the margin rules, then the group. -/
theorem slotWork_of_display (hslot : 8 ≤ s.vid.slot.toNat) : slotWork s = slotGroup (margins s) := by
  have hne : s.vid.slot ≠ 0 := fun h => by rw [h] at hslot; exact absurd hslot (by decide)
  have hstart : lineStart s = s := if_neg hne
  rw [slotWork, hstart, slotFetch, if_neg (by omega)]

end Work

/-! ## The end of a slot (R500) -/

theorem slot_eq_seven_iff (s : State) : s.vid.slot = 7 ↔ s.vid.slot.toNat = 7 := BitVec.toNat_inj.symm

section Ends

variable {s : State}

theorem slotEnd_of_seven (h : s.vid.slot = 7) : slotEnd s = nextSlot (lineSetup s) := by
  rw [slotEnd, if_pos h]

theorem slotEnd_of_ne_seven (h : s.vid.slot ≠ 7) : slotEnd s = nextSlot s := by
  rw [slotEnd, if_neg h]

theorem lineSetup_of_need (h : s.vid.needLpb = true) : lineSetup s = s.setVid s.vid.commit := by
  rw [lineSetup, if_pos h]

theorem lineSetup_of_continuing (h : s.vid.needLpb = false) : lineSetup s = s.setVid s.vid.continueBlock := by
  rw [lineSetup, if_neg (by rw [h]; decide)]

theorem nextSlot_of_more (h : s.vid.slot.toNat + 1 ≠ s.params.nslot) :
    nextSlot s = { s with vid := { s.vid with slot := s.vid.slot + 1 } } := if_neg h

theorem nextSlot_of_last (h : s.vid.slot.toNat + 1 = s.params.nslot) :
    nextSlot s = (endOfLine s).setVid { (endOfLine s).vid with slot := 0 } := if_pos h

theorem slot_succ_toNat (h : s.vid.slot.toNat + 1 ≠ s.params.nslot) (hslot : s.vid.slot.toNat < s.params.nslot)
    (hnslot : s.params.nslot ≤ 64) : (s.vid.slot + 1).toNat = s.vid.slot.toNat + 1 :=
  BitVec.toNat_add_of_lt (show s.vid.slot.toNat + 1 < 64 by omega)

end Ends

/-! ## Pixel groups (30_encoding.md R350; 43_video_renderers.md R602, R607) -/

/-- The bytes are exactly one pixel group. -/
def IsGroup (bs : List Byte) : Prop := areGroups 1 bs = true

/-- One more group at the end of n of them makes n + 1. -/
theorem areGroups_append {n : Nat} {bs g : List Byte} (hbs : areGroups n bs = true) (hg : IsGroup g) :
    areGroups (n + 1) (bs ++ g) = true := by
  induction n generalizing bs with
  | zero => rwa [List.isEmpty_iff.mp hbs]
  | succ n ih =>
    cases bs with
    | nil => exact absurd hbs Bool.false_ne_true
    | cons t rest =>
      simp only [areGroups, Bool.and_eq_true, decide_eq_true_eq] at hbs
      obtain ⟨⟨htag, hlen⟩, hrest⟩ := hbs
      rw [List.cons_append, areGroups, List.drop_append_of_le_length hlen, ih hrest]
      simp only [htag, Bool.true_and, Bool.and_true, decide_eq_true_eq, List.length_append]
      omega

/-- A group holds 1, 2, 4, 8 or 16 colour codes. -/
theorem isGroup_groupOf {px : List Byte} {k : Nat} (hk : k ≤ 4) (hlen : px.length = 2 ^ k) : IsGroup (groupOf px) := by
  have hdrop : areGroups 0 (px.drop (2 ^ k)) = true := by
    rw [List.drop_eq_nil_of_le hlen.le]; rfl
  have htag : isTag (BitVec.ofNat 8 (2 ^ k)) = true := by interval_cases k <;> rfl
  have hpow : 2 ^ k ≤ 2 ^ 4 := Nat.pow_le_pow_right (by decide) hk
  have hcount : (BitVec.ofNat 8 (2 ^ k)).toNat = 2 ^ k := by
    rw [BitVec.toNat_ofNat, Nat.mod_eq_of_lt (by omega)]
  rw [IsGroup, groupOf, areGroups, hlen, hcount, htag, hdrop, decide_eq_true le_rfl]; rfl

/-- A byte decodes to 8, 4, 2 or 1 colour codes, by the colour mode. -/
theorem dec_length (v : Vid) (cm : Nat) (b : Byte) (x : BitVec 4) : (v.dec cm b x).length = 2 ^ (3 - cm) := by
  match cm with
  | 0 | 1 | 2 => rfl
  | n + 3 => rw [show 3 - (n + 3) = 0 by omega]; rfl

section Groups

variable (s : State)

theorem isGroup_plainGroup (b : Byte) : IsGroup (plainGroup b s).1 := isGroup_groupOf (k := 0) (by decide) rfl

theorem isGroup_renderAttrib : IsGroup (renderAttrib s).1 := isGroup_groupOf (k := 3) (by decide) rfl

theorem isGroup_pixelGroup (cm : Nat) (lsb msb : Bool) : IsGroup (pixelGroup cm lsb msb s).1 := by
  refine isGroup_groupOf (k := 3 - cm + 1) (by omega) ?_
  rw [List.length_append, dec_length, dec_length, pow_succ, mul_two]

theorem isGroup_lpixelGroup (cm : Nat) (lsb msb : Bool) : IsGroup (lpixelGroup cm lsb msb s).1 :=
  isGroup_groupOf (by omega) (dec_length _ cm _ _)

theorem isGroup_charGroup (k cm : Nat) (a0 a1 : Bool) : IsGroup (charGroup k cm a0 a1 s).1 :=
  isGroup_groupOf (by omega) (dec_length _ cm _ _)

/-- Every renderer gives one pixel group (R607). -/
theorem isGroup_runRenderer (r : Renderer) : IsGroup (runRenderer r s).1 := by
  cases r with
  | border | sync | invalid => exact isGroup_plainGroup s _
  | attrib => exact isGroup_renderAttrib s
  | pixel_2c | pixel_2c_msb | pixel_2c_lsb | pixel_2c_lsb_msb | pixel_4c | pixel_4c_lsb | pixel_16c | pixel_256c =>
    exact isGroup_pixelGroup s _ _ _
  | lpixel_2c | lpixel_2c_msb | lpixel_2c_lsb | lpixel_2c_lsb_msb | lpixel_4c | lpixel_4c_lsb | lpixel_16c
  | lpixel_256c => exact isGroup_lpixelGroup s _ _ _
  | ch256_2c | ch256_2c_a0 | ch256_2c_a1 | ch256_2c_a0_a1 | ch256_4c | ch256_4c_a1 | ch256_16c | ch256_256c
  | ch128_2c | ch128_2c_a0 | ch128_2c_a1 | ch128_2c_a0_a1 | ch128_4c | ch128_4c_a1 | ch128_16c | ch128_256c
  | ch64_2c | ch64_2c_a0 | ch64_2c_a1 | ch64_2c_a0_a1 | ch64_4c | ch64_4c_a1 | ch64_16c | ch64_256c =>
    exact isGroup_charGroup s _ _ _ _

end Groups

/-! ## The video invariant inside a slot (R540) -/

/-- VideoInv between a slot's group and the move of the slot counter, in a line of at most 64 slots: the line holds the
slot's group too, the display is off up to slot 7, and an LPB is still to be committed up to slot `last` only (7 before
LineSetup, 6 after it). -/
structure SlotInv (last : Nat) (s : State) : Prop where
  nslot : s.params.nslot ≤ 64
  slot : s.vid.slot.toNat < s.params.nslot
  block : s.vid.needLpb = true ∨ 1 ≤ s.vid.linesLeft
  fetching : s.vid.needLpb = true → s.vid.slot.toNat ≤ last
  lines : s.vid.linesLeft ≤ 256
  display : s.vid.slot.toNat ≤ 7 → s.vid.displayEn = false
  base : s.vid.lptBase = lptBaseOf s.vid.lptHi s.vid.lptLo
  groups : areGroups (s.vid.slot.toNat + 1) s.vid.lineBuf = true

/-- Slot 0 closes the display, and it is still closed in slots 1 to 7. -/
theorem display_off_of_low {s : State} (h : VideoInv s) (hlow : s.vid.slot.toNat ≤ 7) :
    (if s.vid.slot.toNat = 0 then false else s.vid.displayEn) = false := by
  split
  case isTrue => rfl
  case isFalse hne => exact h.display (by omega) (by omega)

/-- The border group of slots 0 to 7. -/
theorem isGroup_border (c : Byte) : IsGroup [1, c] := isGroup_groupOf (px := [c]) (k := 0) (by decide) rfl

theorem slotWork_slotInv {s : State} (h : VideoInv s) (hnslot : s.params.nslot ≤ 64) : SlotInv 7 (slotWork s) := by
  by_cases hlow : s.vid.slot.toNat ≤ 7
  · have hoff := display_off_of_low h hlow
    have hgroups := areGroups_append h.groups (isGroup_border s.vid.border)
    cases hneed : s.vid.needLpb with
    | true =>
      rw [slotWork_of_fetching hlow hneed]
      exact ⟨hnslot, h.slot, h.block, h.fetching, h.lines, fun _ => hoff, h.base, hgroups⟩
    | false =>
      rw [slotWork_of_continuing hlow hneed]
      exact ⟨hnslot, h.slot, h.block, h.fetching, h.lines, fun _ => hoff, h.base, hgroups⟩
  · rw [slotWork_of_display (by omega), slotGroup_eq, margins_eq]
    exact ⟨hnslot, h.slot, h.block, h.fetching, h.lines, fun hle => absurd hle hlow, h.base,
      areGroups_append h.groups (isGroup_runRenderer _ _)⟩

/-- A block's line count (R331) is 1 to 256. -/
theorem lineCount_range (sc : Byte) : 1 ≤ lineCount sc ∧ lineCount sc ≤ 256 := by
  have hlt := sc.isLt
  unfold lineCount
  split <;> omega

/-- LineSetup, at the end of slot 7, commits the LPB that is still to be committed. -/
theorem lineSetup_slotInv {s : State} (h : SlotInv 7 s) : SlotInv 6 (lineSetup s) := by
  cases hneed : s.vid.needLpb with
  | true =>
    rw [lineSetup_of_need hneed]
    obtain ⟨hone, hmost⟩ := lineCount_range s.vid.lpbBuf[0]
    exact ⟨h.nslot, h.slot, .inr hone, nofun, hmost, h.display, h.base, h.groups⟩
  | false =>
    rw [lineSetup_of_continuing hneed]
    exact { h with fetching := fun hn => absurd (hneed.symm.trans hn) Bool.false_ne_true }

/-- In a slot other than 7 an LPB still to be committed is one of slots 0 to 6. -/
theorem slotInv_of_ne_seven {s : State} (h : SlotInv 7 s) (hne : s.vid.slot ≠ 7) : SlotInv 6 s :=
  { h with
    fetching := fun hneed => by
      have hle := h.fetching hneed
      rw [ne_eq, slot_eq_seven_iff] at hne
      omega }

/-! ## The invariant from one slot to the next (R535, R540, R541) -/

section NextLine

variable {v : Vid}

/-- A line of the block is left. -/
theorem nextLine_of_more (h : 1 < v.linesLeft) :
    v.nextLine = { v with linesLeft := v.linesLeft - 1, line := v.line + 1 } := by
  rw [Vid.nextLine, if_neg (by omega)]

/-- The block ends, and with it the frame. -/
theorem nextLine_of_reload (h : ¬1 < v.linesLeft) (hreload : v.reload = true) :
    v.nextLine = { v with linesLeft := 0, needLpb := true, lptCur := v.lptBase, line := 0 } := by
  rw [Vid.nextLine, if_pos (by omega), if_pos hreload]

/-- The block ends, and the next LPB of the table follows. -/
theorem nextLine_of_next (h : ¬1 < v.linesLeft) (hreload : ¬v.reload = true) :
    v.nextLine = { v with linesLeft := 0, needLpb := true, lptCur := v.lptCur + 16, line := v.line + 1 } := by
  rw [Vid.nextLine, if_pos (by omega), if_neg hreload]

/-- Everything the counters of EndOfLine can do: the block goes on with a line less, or its end asks for an LPB. -/
theorem nextLine_spec (v : Vid) :
    (1 < v.linesLeft ∧ v.nextLine = { v with linesLeft := v.linesLeft - 1, line := v.line + 1 }) ∨
    ∃ cur line, v.nextLine = { v with linesLeft := 0, needLpb := true, lptCur := cur, line := line } := by
  by_cases hmore : 1 < v.linesLeft
  · exact .inl ⟨hmore, nextLine_of_more hmore⟩
  · by_cases hreload : v.reload = true
    · exact .inr ⟨_, _, nextLine_of_reload hmore hreload⟩
    · exact .inr ⟨_, _, nextLine_of_next hmore hreload⟩

end NextLine

/-- What the invariant asks at the start of a line. -/
theorem videoInv_of_lineStart {s : State} (hslot : s.vid.slot = 0) (hbuf : s.vid.lineBuf = [])
    (hnslot : 0 < s.params.nslot) (hblock : s.vid.needLpb = true ∨ 1 ≤ s.vid.linesLeft)
    (hlines : s.vid.linesLeft ≤ 256) (hbase : s.vid.lptBase = lptBaseOf s.vid.lptHi s.vid.lptLo) : VideoInv s where
  slot := by rw [hslot]; exact hnslot
  block := hblock
  fetching _ := by rw [hslot]; exact Nat.zero_le 7
  lines := hlines
  display hpos := by rw [hslot] at hpos; exact absurd hpos (by decide)
  base := hbase
  groups := by rw [hslot, hbuf]; rfl

theorem endOfLine_videoInv {s : State} (h : SlotInv 6 s) :
    VideoInv ((endOfLine s).setVid { (endOfLine s).vid with slot := 0 }) := by
  have hnslot : 0 < s.params.nslot := Nat.zero_lt_of_lt h.slot
  rw [endOfLine_eq]
  rcases nextLine_spec { s.vid with lineBuf := [] } with ⟨hmore, hv⟩ | ⟨cur, line, hv⟩
  · rw [hv]
    exact videoInv_of_lineStart rfl rfl hnslot (.inr (Nat.le_sub_of_add_le hmore)) ((Nat.sub_le _ _).trans h.lines)
      h.base
  · rw [hv]
    exact videoInv_of_lineStart rfl rfl hnslot (.inl rfl) (Nat.zero_le 256) h.base

theorem nextSlot_videoInv {s : State} (h : SlotInv 6 s) : VideoInv (nextSlot s) := by
  by_cases hlast : s.vid.slot.toNat + 1 = s.params.nslot
  · rw [nextSlot_of_last hlast]; exact endOfLine_videoInv h
  · have hsucc := slot_succ_toNat hlast h.slot h.nslot
    have hslot := h.slot
    rw [nextSlot_of_more hlast]
    refine ⟨?slot, h.block, fun hneed => ?fetching, h.lines, fun _ hle => h.display ?display, h.base, ?groups⟩
    case slot => rw [hsucc]; exact Nat.lt_of_le_of_ne hslot hlast
    case fetching => rw [hsucc]; exact Nat.succ_le_succ (h.fetching hneed)
    case display => rw [hsucc] at hle; exact Nat.le_of_succ_le_succ hle
    case groups => rw [hsucc]; exact h.groups

/-- A video slot keeps the invariant: its work, LineSetup after slot 7, and the move to the next slot. -/
theorem videoSlot_videoInv {s : State} (h : VideoInv s) (hnslot : s.params.nslot ≤ 64) : VideoInv (videoSlot s) := by
  have hwork := slotWork_slotInv h hnslot
  rw [videoSlot_eq_slotEnd]
  by_cases hseven : (slotWork s).vid.slot = 7
  · rw [slotEnd_of_seven hseven]; exact nextSlot_videoInv (lineSetup_slotInv hwork)
  · rw [slotEnd_of_ne_seven hseven]; exact nextSlot_videoInv (slotInv_of_ne_seven hwork hseven)

/-! ## The other operations -/

/-- VideoInv speaks of the video engine and the number of slots alone. -/
theorem videoInv_of_vid_eq {s t : State} (hparams : t.params = s.params) (hvid : t.vid = s.vid) (h : VideoInv s) :
    VideoInv t := by
  obtain ⟨_, _, _, _, _, _, _⟩ := h
  constructor <;> rw [hvid] <;> try rw [hparams]
  all_goals assumption

/-- What a port write does to the video engine: the offsets 0x18 to 0x1B are its registers (30_encoding.md R310). -/
theorem videoInv_portWrite (off : BitVec 5) (v : Byte) (s : State) (h : VideoInv s) : VideoInv (portWrite off v s) := by
  unfold portWrite
  split
  case isTrue => exact { h with }
  case isFalse =>
    split
    case h_1 => rw [intCtrl, irqUpdate_eq]; exact { h with }
    case h_2 | h_3 => exact { h with }
    case h_4 | h_5 => exact { h with base := rfl }
    case h_6 => exact h

theorem videoInv_of_reset {s : State} (hvid : s.vid = Vid.reset) (hnslot : 0 < s.params.nslot) : VideoInv s :=
  videoInv_of_vid_eq (s := State.powerOn s.params) rfl hvid (powerOn_videoInv hnslot)

/-- A consistent video record holds a video engine that meets the invariant: R856 (a), (c), (d), (e) and (f) are what it
asks of the fields, and lpt_base is recomputed. -/
theorem videoFields_videoInv {d : List Byte} {s : State} (h : videoBroken s.params d = none)
    (hnslot : s.params.nslot ≤ 64) : VideoInv (s.setVid (videoFields d)) := by
  have hchecks := (firstBroken_none_iff _).mp h
  simp only [List.forall_mem_cons, Bool.and_eq_true, decide_eq_true_eq] at hchecks
  obtain ⟨hslot, -, hlines, ⟨hblock, hfetching⟩, hgroups, hdisplay, -⟩ := hchecks
  have hwidth : (s.setVid (videoFields d)).vid.slot.toNat = (byteAt d 42).toNat := by
    rw [State.setVid_vid, videoFields, BitVec.toNat_setWidth, Nat.mod_eq_of_lt (by omega)]
  refine ⟨?slot, ?block, fun hneed => ?fetching, hlines, fun hpos hle => ?display, rfl, ?groups⟩
  case slot => rw [hwidth]; exact hslot
  case block => simpa [videoFields] using hblock
  case fetching =>
    have hneed' : byteAt d 43 = 1 := of_decide_eq_true hneed
    rw [hwidth]
    simpa [hneed'] using hfetching
  case display =>
    rw [hwidth] at hpos hle
    have hoff : byteAt d 50 = 0 := by simpa [hpos, hle] using hdisplay
    exact decide_eq_false (by rw [hoff]; decide)
  case groups => rw [hwidth]; exact hgroups

theorem videoInv_replaceIntr {i : Intr} {s : State} (h : VideoInv s) : VideoInv (replaceIntr i s) :=
  videoInv_of_vid_eq (by rw [replaceIntr_eq]) (by rw [replaceIntr_eq]) h

theorem videoInv_writeRecord (u : Subsystem) (d : List Byte) {s : State} (hload : loadProblem u d s = none)
    (hnslot : s.params.nslot ≤ 64) (h : VideoInv s) : VideoInv (writeRecord u d s) :=
  match u with
  | .video => videoFields_videoInv (recordBroken_of_loadProblem hload) hnslot
  | .sound => videoInv_of_vid_eq (State.setSnd_params s _) (State.setSnd_vid s _) h
  | .int => videoInv_replaceIntr h

theorem videoInv_resetSubsystem (u : Subsystem) {s : State} (h : VideoInv s) : VideoInv (resetSubsystem u s) :=
  match u with
  | .video => videoInv_of_reset rfl (Nat.zero_lt_of_lt h.slot)
  | .sound => videoInv_of_vid_eq (State.setSnd_params s _) (State.setSnd_vid s _) h
  | .int => videoInv_replaceIntr h

/-- A renderer moves the pointers and the bus alone, of which the invariant says nothing. -/
theorem videoInv_runRenderer (r : Renderer) {s : State} (h : VideoInv s) : VideoInv (runRenderer r s).2 := by
  rw [runRenderer_writes r s]
  exact { h with }

/-! ## Every step -/

/-- A line has at most 64 slots (R9). -/
theorem nslot_le_of_outerInv {s : State} (h : OuterInv s) : s.params.nslot ≤ 64 := by
  obtain ⟨⟨_, hnslot⟩, _⟩ := h.params
  exact hnslot

/-- The invariant's ten operations, under legal parameters: a video slot, a port write, a load and the two resets write
the video engine, a renderer its pointers, and the others keep it. -/
theorem videoInv_stepClosed : StepClosed fun s => OuterInv s ∧ VideoInv s where
  frame s t hunits h :=
    have hparams : t.params = s.params := (congrArg Prod.fst hunits).symm
    have hvid : t.vid = s.vid := (congrArg (fun u => u.2.1) hunits).symm
    ⟨outerInv_stepClosed.frame s t hunits h.1, videoInv_of_vid_eq hparams hvid h.2⟩
  videoSlot s h := ⟨outerInv_stepClosed.videoSlot s h.1, videoSlot_videoInv h.2 (nslot_le_of_outerInv h.1)⟩
  soundTick s h :=
    ⟨outerInv_stepClosed.soundTick s h.1, videoInv_of_vid_eq (by rw [soundTick_eq]) (by rw [soundTick_eq]) h.2⟩
  portWrite off v s h := ⟨outerInv_stepClosed.portWrite off v s h.1, videoInv_portWrite off v s h.2⟩
  ext2 level s h :=
    ⟨outerInv_stepClosed.ext2 level s h.1,
      videoInv_of_vid_eq (by rw [ext2, intSetLevel_eq]) (by rw [ext2, intSetLevel_eq]) h.2⟩
  load u d s hload h :=
    ⟨outerInv_stepClosed.load u d s hload h.1, videoInv_writeRecord u d hload (nslot_le_of_outerInv h.1) h.2⟩
  resetSub u s h := ⟨outerInv_stepClosed.resetSub u s h.1, videoInv_resetSubsystem u h.2⟩
  reset s h :=
    ⟨outerInv_stepClosed.reset s h.1, by
      rw [resetBlock_eq]; exact videoInv_of_reset rfl (Nat.zero_lt_of_lt h.2.slot)⟩
  collab c s h :=
    ⟨outerInv_stepClosed.collab c s h.1, by
      rcases collaborate_spec c s with ⟨_, _, -, hs⟩ | ⟨_, _, -, hs⟩ <;>
        rw [hs] <;> exact videoInv_of_vid_eq (s := s) rfl rfl h.2⟩
  render r s h := ⟨outerInv_stepClosed.render r s h.1, videoInv_runRenderer r h.2⟩

/-- Settles O57, by the induction over what a step can do, under the parameters' legality that every step keeps. -/
theorem stepKeepsVideo : Obligations.StepKeepsVideo := by
  unfold Obligations.StepKeepsVideo
  exact fun s houter hvideo => next_mono (videoInv_stepClosed.of_step s ⟨houter, hvideo⟩) fun _ h => h.2

end Sys2Proof.Proofs
end

section
/-! PROOFS. Statements of 42_video_engine.md on single slots and lines: the port registers (R550 to R553; O18), a slot of the
LPB fetch (R510, R512; O19), the margins over a line (R520, R521; O22), and the last slot of a line (R535; O21). -/

namespace Sys2Proof.Proofs

open Sys2Proof Sys2Proof.Machine

/-! ## The port registers (R550 to R553) -/

/-- A write of the video engine's registers completes, and changes nothing else. -/
theorem perform_of_setVid {f : State → State} {s : State} {v : Vid} (hf : s.clk.faulted = false)
    (h : f s = s.setVid v) : perform f s = .next { s with vid := v, reply := .completed } := by
  rw [perform_of_running f hf, h]
  exact congrArg _ (complete_of_running hf)

/-- Settles O18: each write is one update of the video engine, and each read answers its register. -/
theorem videoRegisters : Obligations.VideoRegisters := by
  unfold Obligations.VideoRegisters
  intro s v hf
  exact ⟨perform_of_setVid hf rfl, perform_of_setVid hf rfl, perform_of_setVid hf rfl, perform_of_setVid hf rfl,
    answerByte_of_running (fun s => s.vid.fixbias) hf, answerByte_of_running (fun s => s.vid.border) hf,
    answerByte_of_running (fun s => s.vid.lptLo) hf, answerByte_of_running (fun s => s.vid.lptHi) hf⟩

/-! ## VIDEO_SLOT, by where its slot lies in the line (R500) -/

/-- VIDEO_SLOT's effect, and its completion. -/
theorem exec_videoSlot {s : State} (hf : s.clk.faulted = false) :
    exec .videoSlot s = .next { videoSlot s with reply := .completed } := by
  have hrun : (videoSlot s).clk.faulted = false := by rw [videoSlot_clk]; exact hf
  exact (perform_of_running videoSlot hf).trans (congrArg _ (complete_of_running hrun))

/-- A slot's work keeps the slot counter, the parameters, and whether an LPB is to be committed. -/
theorem slotWork_keeps (s : State) :
    (slotWork s).vid.slot = s.vid.slot ∧ (slotWork s).params = s.params ∧
      (slotWork s).vid.needLpb = s.vid.needLpb := by
  by_cases hlow : s.vid.slot.toNat ≤ 7
  · cases hneed : s.vid.needLpb with
    | true => rw [slotWork_of_fetching hlow hneed]; exact ⟨rfl, rfl, hneed⟩
    | false => rw [slotWork_of_continuing hlow hneed]; exact ⟨rfl, rfl, hneed⟩
  · rw [slotWork_of_display (by omega), slotGroup_eq, margins_eq]; exact ⟨rfl, rfl, rfl⟩

section Slots

variable {s : State}

/-- A slot other than 7 that is not the last: its work, and the next slot. -/
theorem videoSlot_of_more (hseven : s.vid.slot ≠ 7) (hmore : s.vid.slot.toNat + 1 ≠ s.params.nslot) :
    videoSlot s = { slotWork s with vid := { (slotWork s).vid with slot := s.vid.slot + 1 } } := by
  obtain ⟨hslot, hparams, -⟩ := slotWork_keeps s
  rw [← hslot] at hseven
  rw [← hslot, ← hparams] at hmore
  rw [videoSlot_eq_slotEnd, slotEnd_of_ne_seven hseven, nextSlot_of_more hmore, hslot]

/-- Slot 7, where it is not the last: its work, LineSetup, and the next slot. -/
theorem videoSlot_of_seven (hseven : s.vid.slot = 7) (hmore : s.vid.slot.toNat + 1 ≠ s.params.nslot) :
    videoSlot s = { slotWork s with vid := { (lineSetup (slotWork s)).vid with slot := s.vid.slot + 1 } } := by
  obtain ⟨hslot, hparams, -⟩ := slotWork_keeps s
  have hsetup : (lineSetup (slotWork s)).vid.slot = s.vid.slot := by
    rw [← hslot, lineSetup]
    split <;> rfl
  have hmore' : (lineSetup (slotWork s)).vid.slot.toNat + 1 ≠ (lineSetup (slotWork s)).params.nslot := by
    rw [hsetup]
    exact hparams ▸ hmore
  rw [videoSlot_eq_slotEnd, slotEnd_of_seven (hslot.trans hseven), nextSlot_of_more hmore', hsetup]
  rfl

/-- The last slot of a line: the margin rules and the group, and the end of the line. -/
theorem videoSlot_of_last (hslot : 8 ≤ s.vid.slot.toNat) (hlast : s.vid.slot.toNat + 1 = s.params.nslot) :
    videoSlot s =
      (endOfLine (slotGroup (margins s))).setVid { (endOfLine (slotGroup (margins s))).vid with slot := 0 } := by
  obtain ⟨hkeep, hparams, -⟩ := slotWork_keeps s
  have hseven : (slotWork s).vid.slot ≠ 7 := by
    rw [ne_eq, slot_eq_seven_iff, hkeep]
    omega
  rw [← hkeep, ← hparams] at hlast
  rw [videoSlot_eq_slotEnd, slotEnd_of_ne_seven hseven, nextSlot_of_last hlast, slotWork_of_display hslot]

end Slots

/-! ## Slots 0 to 7 (R510, R512) -/

theorem charK_eq (vm : BitVec 3) :
    charK vm = if vm = 3 then some 256 else if vm = 4 then some 128 else if vm = 5 then some 64 else none := by
  revert vm; decide

/-- The pointers of a continuing line, by the video mode and VRES (R512). -/
theorem continueBlock_eq (v : Vid) :
    v.continueBlock = { v with
      ld1 := if v.vres then v.ld1 else v.ld1b
      ld2 :=
        if v.vm = 3 then v.ld2 + 256
        else if v.vm = 4 then v.ld2 + 128
        else if v.vm = 5 then v.ld2 + 64
        else if v.vres then v.ld2 else v.ld2b } := by
  rw [Vid.continueBlock, Vid.nextLd2, charK_eq]
  split_ifs <;> rfl

/-- Settles O19: the work of a slot 0 to 7, by whether the line starts a block, and LineSetup after slot 7. -/
theorem slotReadsLpb : Obligations.SlotReadsLpb := by
  unfold Obligations.SlotReadsLpb
  intro s hf hnslot hlow
  have hmore : s.vid.slot.toNat + 1 ≠ s.params.nslot := by omega
  have hne (h6 : s.vid.slot.toNat ≤ 6) : s.vid.slot ≠ 7 := by
    rw [ne_eq, slot_eq_seven_iff]
    omega
  have hseven (h7 : s.vid.slot.toNat = 7) : s.vid.slot = 7 := (slot_eq_seven_iff s).mpr h7
  obtain ⟨-, -, hkeep⟩ := slotWork_keeps s
  refine ⟨fun hneed h6 => ?fetch, fun hneed h7 => ?commit, fun hneed h6 => ?skip, fun hneed h7 => ?onward⟩
  case fetch => rw [exec_videoSlot hf, videoSlot_of_more (hne h6) hmore, slotWork_of_fetching hlow hneed]; rfl
  case commit =>
    rw [exec_videoSlot hf, videoSlot_of_seven (hseven h7) hmore, lineSetup_of_need (hkeep.trans hneed),
      slotWork_of_fetching hlow hneed]
    rfl
  case skip => rw [exec_videoSlot hf, videoSlot_of_more (hne h6) hmore, slotWork_of_continuing hlow hneed]
  case onward =>
    rw [exec_videoSlot hf, videoSlot_of_seven (hseven h7) hmore, lineSetup_of_continuing (hkeep.trans hneed),
      continueBlock_eq, slotWork_of_continuing hlow hneed]
    rfl

/-! ## The margins over a line (R520, R521) -/

/-- A slot of the line is active where the display has opened and has not been closed since (R521). -/
theorem activeSlot_iff {L R N k : Nat} (hk : k < N) : activeSlot L R N k ↔ L ≤ k ∧ R ≠ L ∧ (L < R → k < R) := by
  unfold activeSlot
  split_ifs
  · rw [false_iff]; omega
  · rw [false_iff]; omega
  · omega
  · omega

/-- The display after the margin rules of a slot: open where it opens there or was open, and does not close there. -/
theorem margins_displayEn_iff (s : State) :
    (margins s).vid.displayEn = true ↔
      s.vid.slot.toNat ≠ s.vid.rm.toNat ∧ (s.vid.slot.toNat = max s.vid.lm.toNat 8 ∨ s.vid.displayEn = true) := by
  rw [margins_eq, ne_eq, BitVec.toNat_inj]
  dsimp only
  split_ifs <;> simp [*]

/-- t is s's line at its slot 8 + n: the same margins, and after that slot's margin rules the display is on where R521's
table says. -/
structure LineAt (s : State) (n : Nat) (t : State) : Prop where
  params : t.params = s.params
  lpb : t.vid.lpb = s.vid.lpb
  slot : t.vid.slot.toNat = 8 + n
  active : (margins t).vid.displayEn = true ↔
    activeSlot (max s.vid.lm.toNat 8) s.vid.rm.toNat s.params.nslot (8 + n)

theorem lm_eq_of_lpb_eq {v w : Vid} (h : v.lpb = w.lpb) : v.lm = w.lm := by rw [Vid.lm, Vid.lm, h]

theorem rm_eq_of_lpb_eq {v w : Vid} (h : v.lpb = w.lpb) : v.rm = w.rm := by rw [Vid.rm, Vid.rm, h]

theorem lineAt_zero {s : State} (hslot : s.vid.slot = 8) (hoff : s.vid.displayEn = false) (hlen : 8 < s.params.nslot) :
    LineAt s 0 s where
  params := rfl
  lpb := rfl
  slot := by rw [hslot]; rfl
  active := by
    rw [margins_displayEn_iff, activeSlot_iff hlen, hslot, hoff]
    simp only [BitVec.reduceToNat, Bool.false_eq_true, or_false]
    omega

/-- A slot past 7 that is not the last leaves the next slot with the display as its margin rules left it. -/
theorem lineAt_succ {s t : State} {n : Nat} (h : LineAt s n t) (hnslot : s.params.nslot ≤ 64)
    (hmore : 8 + (n + 1) < s.params.nslot) : LineAt s (n + 1) (videoSlot t) := by
  have hslot := h.slot
  have hne : t.vid.slot ≠ 7 := by
    rw [ne_eq, slot_eq_seven_iff]
    omega
  have hnext : t.vid.slot.toNat + 1 ≠ t.params.nslot := by rw [h.params]; omega
  have hvideo : videoSlot t =
      { slotGroup (margins t) with vid := { (slotGroup (margins t)).vid with slot := t.vid.slot + 1 } } := by
    rw [videoSlot_of_more hne hnext, slotWork_of_display (by omega)]
  have hlpb : (videoSlot t).vid.lpb = s.vid.lpb := by rw [hvideo, slotGroup_eq, margins_eq]; exact h.lpb
  have hsucc : (videoSlot t).vid.slot.toNat = 8 + (n + 1) := by
    rw [hvideo]
    exact (slot_succ_toNat hnext (by rw [h.params]; omega) (by rw [h.params]; exact hnslot)).trans (by omega)
  have hdisplay : (videoSlot t).vid.displayEn = (margins t).vid.displayEn := by rw [hvideo, slotGroup_eq]
  refine ⟨?params, hlpb, hsucc, ?active⟩
  case params => rw [videoSlot_writes t]; exact h.params
  case active =>
    have hactive := h.active
    rw [activeSlot_iff (by omega)] at hactive
    rw [margins_displayEn_iff, hdisplay, hactive, activeSlot_iff hmore, hsucc, lm_eq_of_lpb_eq hlpb,
      rm_eq_of_lpb_eq hlpb]
    omega

/-- Settles O22, by induction over the slots from slot 8. -/
theorem marginOutcomes : Obligations.MarginOutcomes := by
  unfold Obligations.MarginOutcomes
  intro s n hnslot hslot hoff hlen
  have hline : LineAt s n (videoSlot^[n] s) := by
    induction n with
    | zero => exact lineAt_zero hslot hoff hlen
    | succ n ih =>
      rw [Function.iterate_succ_apply']
      exact lineAt_succ (ih (by omega)) hnslot hlen
  exact hline.active

/-! ## The end of a line (R535; 45_interrupts.md R800, R801) -/

/-- External line 1's level and latch after IntSetLevel(2, v): a fall latches, and a latch once set stays. -/
theorem drive_two_eq (i : Intr) (v : Bool) :
    i.drive 2 v =
      { i with level := i.level.set 2 v, latch := i.latch.set 2 ((i.level[2] && !v) || i.latch[2]) } := by
  have hdrive : i.drive 2 v = { i with
      level := i.level.set 2 v, latch := if i.level[2] && !v then i.latch.set 2 true else i.latch } := rfl
  rw [hdrive]
  cases i.level[2] && !v with
  | true => rfl
  | false => rw [Bool.false_or, Vector.set_getElem_self, if_neg (by decide)]

/-- What the enabled latches then ask for. -/
theorem wanted_drive_two (i : Intr) (v : Bool) :
    (i.drive 2 v).wanted =
      ((i.latch[0] && i.enable[0]) || (i.latch[1] && i.enable[1]) ||
        (((i.level[2] && !v) || i.latch[2]) && i.enable[2]) || (i.latch[3] && i.enable[3])) := by
  rw [drive_two_eq]
  simp [Intr.wanted]

theorem irqEvents_eq_lineEvents (i : Intr) : irqEvents i = lineEvents i.irq i.wanted := by
  unfold irqEvents lineEvents irqEvent
  split_ifs <;> rfl

/-- The counters and pointers of the next line, at its slot 0 with nothing in the line (R535). -/
theorem nextLine_atStart (v : Vid) :
    { Vid.nextLine { v with lineBuf := [] } with slot := 0 } =
      (if 1 < v.linesLeft then
        { v with lineBuf := [], slot := 0, linesLeft := v.linesLeft - 1, line := v.line + 1 }
      else if v.reload then
        { v with lineBuf := [], slot := 0, linesLeft := 0, needLpb := true, lptCur := v.lptBase, line := 0 }
      else
        { v with
          lineBuf := [], slot := 0, linesLeft := 0, needLpb := true, lptCur := v.lptCur + 16, line := v.line + 1 }) := by
  by_cases hmore : 1 < v.linesLeft
  · rw [nextLine_of_more (v := { v with lineBuf := [] }) hmore, if_pos hmore]
  · rw [if_neg hmore]
    by_cases hreload : v.reload = true
    · rw [nextLine_of_reload (v := { v with lineBuf := [] }) hmore hreload, if_pos hreload]
    · rw [nextLine_of_next (v := { v with lineBuf := [] }) hmore hreload, if_neg hreload]

/-- EndOfLine and the return to slot 0, from what it makes of VID, INT and the trace. -/
theorem lineEnd_eq {s : State} {v : Vid} {i : Intr} {t : List Event}
    (hvid : { Vid.nextLine { s.vid with lineBuf := [] } with slot := 0 } = v)
    (hintr : { s.intr.drive 2 s.vid.vint with irq := (s.intr.drive 2 s.vid.vint).wanted } = i)
    (htrace : s.trace ++ [.scanline s.vid.lineBuf s.vid.lineBuf.length] ++ irqEvents (s.intr.drive 2 s.vid.vint) = t) :
    (endOfLine s).setVid { (endOfLine s).vid with slot := 0 } = { s with vid := v, intr := i, trace := t } := by
  rw [endOfLine_eq, ← hvid, ← hintr, ← htrace]; rfl

/-! ## The last slot of a line (R500, R535) -/

/-- The opening test's events, with its conditions as flags. -/
theorem openEvents_eq (v : Vid) :
    openEvents v =
      if decide (v.slot.toNat = max v.lm.toNat 8) && (decide (v.vm = 0) != v.vsync) then
        [.vsync (decide (v.vm = 0)) v.slot]
      else [] := by
  unfold openEvents
  by_cases hopens : v.slot.toNat = max v.lm.toNat 8
  · rw [if_pos hopens, decide_eq_true hopens, Bool.true_and]
    by_cases hsync : decide (v.vm = 0) = v.vsync
    · rw [if_pos hsync, if_neg (by rw [hsync, bne_self_eq_false]; decide)]
    · rw [if_neg hsync, if_pos (bne_iff_ne.mpr hsync)]
  · rw [if_neg hopens, decide_eq_false hopens, Bool.false_and]; rfl

/-- The state after a group is rendered: the renderer's pointers and bus byte, and the group at the end of the line
(R530; 43_video_renderers.md R601). -/
def withGroup (s : State) (g : List Byte × State) : State :=
  { s with vid := { s.vid with
      ld1 := g.2.vid.ld1, ld2 := g.2.vid.ld2, busLast := g.2.vid.busLast, lineBuf := s.vid.lineBuf ++ g.1 } }

theorem slotGroup_eq_withGroup (s : State) :
    slotGroup s = withGroup s (runRenderer (decodeKey (renderKey s)) s) := slotGroup_eq s

/-- Settles O21: the margin rules, the key they leave, its renderer's group, and the end of the line, each by its own
equation. -/
theorem slotEndsLine : Obligations.SlotEndsLine := by
  unfold Obligations.SlotEndsLine
  intro s hf hslot hlast opens shown sync u key g buf fell l2 on v
  have hu : margins s = u := by
    rw [margins_eq, openEvents_eq]
    simp only [u, shown, opens, sync, decide_eq_true_eq]
  have hkey : renderKey u = key := by
    have hpast : decide (8 ≤ u.vid.slot.toNat) = true := decide_eq_true hslot
    rw [renderKey, hpast, Bool.and_true]; rfl
  have hwork : slotGroup (margins s) = withGroup u g := by rw [hu, slotGroup_eq_withGroup, hkey]
  have hon : (s.intr.drive 2 s.vid.vint).wanted = on := wanted_drive_two _ _
  have hintr : { s.intr.drive 2 s.vid.vint with irq := (s.intr.drive 2 s.vid.vint).wanted } =
      { s.intr with level := s.intr.level.set 2 s.vid.vint, latch := s.intr.latch.set 2 l2, irq := on } := by
    rw [hon, drive_two_eq]
  have hevents : irqEvents (s.intr.drive 2 s.vid.vint) = lineEvents s.intr.irq on := by
    rw [irqEvents_eq_lineEvents, hon]; rfl
  have hend := lineEnd_eq (s := withGroup u g) (nextLine_atStart _) hintr
    (congrArg (u.trace ++ [.scanline buf buf.length] ++ ·) hevents)
  rw [exec_videoSlot hf, videoSlot_of_last hslot hlast, hwork, hend]
  rfl

end Sys2Proof.Proofs
end

section
/-! PROOFS. The renderers (43_video_renderers.md): palette indices, palette and font address (R602 to R606; O31), what
each shape of renderer gives and moves (R610, R612), the rows run alone (R620 to R663; O23 to O28), the floating bus
(R612; O29), the group (R607; O30), and a slot that displays (R500, R520, R525; O20). -/

namespace Sys2Proof.Proofs

open Sys2Proof Sys2Proof.Machine

/-! ## Palette indices, palette and font address (R602 to R606) -/

theorem indexOf_toNat (b3 b2 b1 b0 : Bool) :
    (indexOf b3 b2 b1 b0).toNat = b0.toNat + 2 * b1.toNat + 4 * b2.toNat + 8 * b3.toNat := by
  revert b3 b2 b1 b0; decide

/-- PixAlt as a number: bit 0 of the byte flips index bit 2, bit 7 flips index bit 1 (R604). -/
theorem pixAlt_toNat (b : Byte) (lsb msb : Bool) :
    (pixAlt b lsb msb).toNat =
      (if lsb && b.getLsbD 0 then 4 else 0) + (if msb && b.getLsbD 7 then 2 else 0) := by
  rw [pixAlt, indexOf_toNat]
  cases lsb && b.getLsbD 0 <;> cases msb && b.getLsbD 7 <;> rfl

/-- ChrAlt as a number: bit 7 of the code flips index bit 1, bit 6 flips index bit 2 (R605). -/
theorem chrAlt_toNat (c : Byte) (a0 a1 : Bool) :
    (chrAlt c a0 a1).toNat =
      (if a0 && c.getLsbD 7 then 2 else 0) + (if a1 && c.getLsbD 6 then 4 else 0) := by
  rw [chrAlt, indexOf_toNat]
  cases a0 && c.getLsbD 7 <;> cases a1 && c.getLsbD 6 <;> rfl

/-- Palette entries 0 to 7 are the LPB's (R603). -/
theorem colour_low (v : Vid) (i : Fin 8) : v.colour (BitVec.ofNat 4 i.val) = v.lpb[8 + i.val] := by
  fin_cases i <;> rfl

/-- Palette entries 8 to 15 are the FIXBIAS bank's (R603). -/
theorem colour_high (v : Vid) (i : Fin 8) :
    v.colour (BitVec.ofNat 4 (8 + i.val)) = v.fixbias.extractLsb' 0 5 ++ BitVec.ofNat 3 i.val := by
  fin_cases i <;> rfl

/-- The font address bit by bit: the code's bits below k, the pointer's from k on. -/
theorem fontAddr_getLsbD (k : Nat) (p : Half) (c : Byte) {j : Nat} (hj : j < 16) :
    (fontAddr k p c).getLsbD j = if j < k then c.getLsbD j else p.getLsbD j := by
  rw [fontAddr, BitVec.getLsbD_or, BitVec.getLsbD_shiftLeft, BitVec.getLsbD_ushiftRight, BitVec.getLsbD_ofNat,
    Nat.testBit_mod_two_pow]
  by_cases hlow : j < k
  · simp [hj, hlow, BitVec.getLsbD]
  · simp [hj, hlow, show k + (j - k) = j by omega]

/-- The font address in two parts: the pointer's high n bits, and the code's low k bits (R606). -/
theorem fontAddr_eq_append {k n : Nat} (h : n + k = 16) (p : Half) (c : Byte) :
    fontAddr k p c = (p.extractLsb' k n ++ c.extractLsb' 0 k).cast h := by
  refine BitVec.eq_of_getLsbD_eq fun j hj => ?_
  rw [fontAddr_getLsbD k p c hj, BitVec.getLsbD_cast, BitVec.getLsbD_append, BitVec.getLsbD_extractLsb',
    BitVec.getLsbD_extractLsb']
  by_cases hlow : j < k
  · simp [hlow]
  · simp [hlow, show j - k < n by omega, show k + (j - k) = j by omega]

theorem fontAddr_eight (p : Half) (c : Byte) : fontAddr 8 p c = p.extractLsb' 8 8 ++ c := by
  have hcode : c.extractLsb' 0 8 = c := BitVec.extractLsb'_eq_self
  exact (fontAddr_eq_append rfl p c).trans (congrArg (p.extractLsb' 8 8 ++ ·) hcode)

/-- Settles O31: each palette index and each alternate mask by its bits, and the font address by the bit equation. -/
theorem decodeAndPalette : Obligations.DecodeAndPalette := by
  unfold Obligations.DecodeAndPalette
  refine ⟨fun b => ⟨?two, ?four, ?sixteen, pixAlt_toNat b, chrAlt_toNat b⟩,
    fun v i => ⟨colour_low v i, colour_high v i⟩, fun _ _ _ => ⟨rfl, rfl, rfl, rfl⟩,
    fun p c => ⟨fontAddr_eight p c, fontAddr_eq_append rfl p c, fontAddr_eq_append rfl p c⟩⟩
  case two => simp [indices2, indexOf_toNat]
  case four => simp [indices4, indexOf_toNat]
  case sixteen => simp [indices16, indexOf_toNat]

/-! ## What a fetch gives, and where it leaves the pointers (R610, R612) -/

/-- The byte that an access to address a gives: what memory holds, or what is on the bus past the last fetching slot. -/
def fetched (s : State) (a : Half) : Byte := if decide s.floating then s.vid.busLast else Memory.read s.mem a

/-- The video engine after accesses that leave v in a fetching slot: past the last one it is not changed. -/
def moved (s : State) (v : Vid) : Vid := if decide s.floating then s.vid else v

section Fetches

variable {s : State}

theorem fetched_of_floating (h : s.floating) (a : Half) : fetched s a = s.vid.busLast := if_pos (decide_eq_true h)

theorem fetched_of_fetching (h : ¬s.floating) (a : Half) : fetched s a = Memory.read s.mem a :=
  if_neg (by rw [decide_eq_false h]; decide)

theorem moved_of_floating (h : s.floating) (v : Vid) : moved s v = s.vid := if_pos (decide_eq_true h)

theorem moved_of_fetching (h : ¬s.floating) (v : Vid) : moved s v = v := if_neg (by rw [decide_eq_false h]; decide)

end Fetches

/-! ## Past the last fetching slot: the group that the bus byte gives (R612) -/

section Floating

variable {s : State}

theorem renderAttrib_of_floating (h : s.floating) :
    renderAttrib s =
      (groupOf ([7, 6, 5, 4, 3, 2, 1, 0].map fun j => s.vid.colour
        (if s.vid.busLast.getLsbD j then s.vid.busLast.extractLsb' 0 4 else s.vid.busLast.extractLsb' 4 4)), s) := by
  simp only [renderAttrib, vfetch1_of_floating h, vfetch2_of_floating h]

theorem pixelGroup_of_floating (h : s.floating) (cm : Nat) (lsb msb : Bool) :
    pixelGroup cm lsb msb s =
      (groupOf (s.vid.dec cm s.vid.busLast (pixAlt s.vid.busLast lsb msb) ++
        s.vid.dec cm s.vid.busLast (pixAlt s.vid.busLast lsb msb)), s) := by
  simp only [pixelGroup, vfetch1_of_floating h]

theorem lpixelGroup_of_floating (h : s.floating) (cm : Nat) (lsb msb : Bool) :
    lpixelGroup cm lsb msb s = (groupOf (s.vid.dec cm s.vid.busLast (pixAlt s.vid.busLast lsb msb)), s) := by
  simp only [lpixelGroup, vfetch1_of_floating h]

theorem charGroup_of_floating (h : s.floating) (k cm : Nat) (a0 a1 : Bool) :
    charGroup k cm a0 a1 s = (groupOf (s.vid.dec cm s.vid.busLast (chrAlt s.vid.busLast a0 a1)), s) := by
  simp only [charGroup, vfetch1_of_floating h, vread_of_floating _ h]

end Floating

/-! ## The shapes of a renderer that fetches (R623 to R663) -/

section Shapes

variable (s : State)

/-- The byte at LD1 holds ink and paper, and the byte at LD2 chooses between them (R623). -/
theorem renderAttrib_eq :
    renderAttrib s =
      (groupOf ([7, 6, 5, 4, 3, 2, 1, 0].map fun j => s.vid.colour
        (if (fetched s s.vid.ld2).getLsbD j then (fetched s s.vid.ld1).extractLsb' 0 4
         else (fetched s s.vid.ld1).extractLsb' 4 4)),
        { s with vid := moved s { s.vid with
            ld1 := s.vid.ld1 + 1, ld2 := s.vid.ld2 + 1, busLast := fetched s s.vid.ld2 } }) := by
  by_cases h : s.floating
  · simp only [renderAttrib_of_floating h, fetched_of_floating h, moved_of_floating h]
  · simp only [renderAttrib, vfetch1_of_fetching h, fetched_of_fetching h, moved_of_fetching h]
    rw [vfetch2_of_fetching]
    exact h

/-- A PIXEL renderer decodes the two bytes at LD1 (R624 to R631). -/
theorem pixelGroup_eq (cm : Nat) (lsb msb : Bool) :
    pixelGroup cm lsb msb s =
      (groupOf (s.vid.dec cm (fetched s s.vid.ld1) (pixAlt (fetched s s.vid.ld1) lsb msb) ++
        s.vid.dec cm (fetched s (s.vid.ld1 + 1)) (pixAlt (fetched s (s.vid.ld1 + 1)) lsb msb)),
        { s with vid := moved s { s.vid with ld1 := s.vid.ld1 + 2, busLast := fetched s (s.vid.ld1 + 1) } }) := by
  by_cases h : s.floating
  · simp only [pixelGroup_of_floating h, fetched_of_floating h, moved_of_floating h]
  · have htwo : s.vid.ld1 + 1 + 1 = s.vid.ld1 + 2 := BitVec.add_assoc _ _ _
    simp only [pixelGroup, vfetch1_of_fetching h, fetched_of_fetching h, moved_of_fetching h]
    rw [vfetch1_of_fetching, htwo]
    exact h

/-- An LPIXEL renderer decodes the byte at LD1 (R632 to R639). -/
theorem lpixelGroup_eq (cm : Nat) (lsb msb : Bool) :
    lpixelGroup cm lsb msb s =
      (groupOf (s.vid.dec cm (fetched s s.vid.ld1) (pixAlt (fetched s s.vid.ld1) lsb msb)),
        { s with vid := moved s { s.vid with ld1 := s.vid.ld1 + 1, busLast := fetched s s.vid.ld1 } }) := by
  by_cases h : s.floating
  · simp only [lpixelGroup_of_floating h, fetched_of_floating h, moved_of_floating h]
  · simp only [lpixelGroup, vfetch1_of_fetching h, fetched_of_fetching h, moved_of_fetching h]

/-- The font byte of the character at LD1 (R606). -/
def fontByte (k : Nat) (s : State) : Byte := fetched s (fontAddr k s.vid.ld2 (fetched s s.vid.ld1))

/-- A character renderer decodes the font byte of the code at LD1 (R640 to R663). -/
theorem charGroup_eq (k cm : Nat) (a0 a1 : Bool) :
    charGroup k cm a0 a1 s =
      (groupOf (s.vid.dec cm (fontByte k s) (chrAlt (fetched s s.vid.ld1) a0 a1)),
        { s with vid := moved s { s.vid with ld1 := s.vid.ld1 + 1, busLast := fontByte k s } }) := by
  by_cases h : s.floating
  · simp only [charGroup_of_floating h, fontByte, fetched_of_floating h, moved_of_floating h]
  · simp only [charGroup, vfetch1_of_fetching h, fontByte, fetched_of_fetching h, moved_of_fetching h]
    rw [vread_of_fetching]
    exact h

end Shapes

/-! ## The rows run alone (DESIGN CHOICE, log 3) -/

section Rows

variable {s : State}

/-- A row run alone, from the codes its renderer gives and the video engine it leaves. -/
theorem exec_of_runRenderer {r : Renderer} {px : List Byte} {v : Vid}
    (h : runRenderer r s = (groupOf px, { s with vid := v })) :
    exec r.instr s = .next { s with vid := v, reply := .group (groupOf px) } := by
  rw [exec_renderer, h]; rfl

/-- A character row, by its font byte. -/
theorem exec_charRow (r : Renderer) {k cm : Nat} {a0 a1 : Bool} {f : Byte}
    (hr : runRenderer r s = charGroup k cm a0 a1 s) (hfont : fontByte k s = f) :
    exec r.instr s = .next { s with
      vid := moved s { s.vid with ld1 := s.vid.ld1 + 1, busLast := f }
      reply := .group (groupOf (s.vid.dec cm f (chrAlt (fetched s s.vid.ld1) a0 a1))) } := by
  rw [← hfont]
  exact exec_of_runRenderer (hr.trans (charGroup_eq s k cm a0 a1))

end Rows

/-- Settles O23: three rows of one colour with no fetch, and the ink-and-paper row by its equation. -/
theorem plainRenderers : Obligations.PlainRenderers := by
  unfold Obligations.PlainRenderers
  intro s past a m v ink paper
  refine ⟨exec_renderer .border s, exec_renderer .sync s, exec_renderer .invalid s, ?attrib⟩
  case attrib =>
    refine (exec_of_runRenderer (r := .attrib) (renderAttrib_eq s)).trans ?_
    simp only [apply_ite s.vid.colour]
    rfl

/-- Settles O24: each row is pixelGroup at its colour mode and indicators. -/
theorem pixelRenderers : Obligations.PixelRenderers := by
  unfold Obligations.PixelRenderers
  intro s past b0 b1 v gives
  have row (r : Renderer) {cm lsb msb} (hr : runRenderer r s = pixelGroup cm lsb msb s) :
      exec r.instr s =
        gives (groupOf (s.vid.dec cm b0 (pixAlt b0 lsb msb) ++ s.vid.dec cm b1 (pixAlt b1 lsb msb))) :=
    exec_of_runRenderer (hr.trans (pixelGroup_eq s cm lsb msb))
  exact ⟨row .pixel_2c rfl, row .pixel_2c_msb rfl, row .pixel_2c_lsb rfl, row .pixel_2c_lsb_msb rfl,
    row .pixel_4c rfl, row .pixel_4c_lsb rfl, row .pixel_16c rfl, row .pixel_256c rfl⟩

/-- Settles O25: each row is lpixelGroup at its colour mode and indicators. -/
theorem lpixelRenderers : Obligations.LpixelRenderers := by
  unfold Obligations.LpixelRenderers
  intro s past b0 v gives
  have row (r : Renderer) {cm lsb msb} (hr : runRenderer r s = lpixelGroup cm lsb msb s) :
      exec r.instr s = gives (groupOf (s.vid.dec cm b0 (pixAlt b0 lsb msb))) :=
    exec_of_runRenderer (hr.trans (lpixelGroup_eq s cm lsb msb))
  exact ⟨row .lpixel_2c rfl, row .lpixel_2c_msb rfl, row .lpixel_2c_lsb rfl, row .lpixel_2c_lsb_msb rfl,
    row .lpixel_4c rfl, row .lpixel_4c_lsb rfl, row .lpixel_16c rfl, row .lpixel_256c rfl⟩

/-- Settles O26: each row is charGroup with 8 bits of the code, at its colour mode and indicators. -/
theorem ch256Renderers : Obligations.Ch256Renderers := by
  unfold Obligations.Ch256Renderers
  intro s past c f v gives
  have hfont : fontByte 8 s = f := congrArg (fetched s) (fontAddr_eq_append rfl _ _)
  exact ⟨exec_charRow .ch256_2c rfl hfont, exec_charRow .ch256_2c_a0 rfl hfont, exec_charRow .ch256_2c_a1 rfl hfont,
    exec_charRow .ch256_2c_a0_a1 rfl hfont, exec_charRow .ch256_4c rfl hfont, exec_charRow .ch256_4c_a1 rfl hfont,
    exec_charRow .ch256_16c rfl hfont, exec_charRow .ch256_256c rfl hfont⟩

/-- Settles O27: each row is charGroup with 7 bits of the code, at its colour mode and indicators. -/
theorem ch128Renderers : Obligations.Ch128Renderers := by
  unfold Obligations.Ch128Renderers
  intro s past c f v gives
  have hfont : fontByte 7 s = f := congrArg (fetched s) (fontAddr_eq_append rfl _ _)
  exact ⟨exec_charRow .ch128_2c rfl hfont, exec_charRow .ch128_2c_a0 rfl hfont, exec_charRow .ch128_2c_a1 rfl hfont,
    exec_charRow .ch128_2c_a0_a1 rfl hfont, exec_charRow .ch128_4c rfl hfont, exec_charRow .ch128_4c_a1 rfl hfont,
    exec_charRow .ch128_16c rfl hfont, exec_charRow .ch128_256c rfl hfont⟩

/-- Settles O28: each row is charGroup with 6 bits of the code, at its colour mode and indicators. -/
theorem ch64Renderers : Obligations.Ch64Renderers := by
  unfold Obligations.Ch64Renderers
  intro s past c f v gives
  have hfont : fontByte 6 s = f := congrArg (fetched s) (fontAddr_eq_append rfl _ _)
  exact ⟨exec_charRow .ch64_2c rfl hfont, exec_charRow .ch64_2c_a0 rfl hfont, exec_charRow .ch64_2c_a1 rfl hfont,
    exec_charRow .ch64_2c_a0_a1 rfl hfont, exec_charRow .ch64_4c rfl hfont, exec_charRow .ch64_4c_a1 rfl hfont,
    exec_charRow .ch64_16c rfl hfont, exec_charRow .ch64_256c rfl hfont⟩

/-! ## Past the last fetching slot (R612) -/

/-- s with another memory behind it and other pointers. -/
def elsewhere (s : State) (m : Memory) (a b : Half) : State :=
  { s with mem := m, vid := { s.vid with ld1 := a, ld2 := b } }

/-- Past the last fetching slot f changes nothing, and its group does not depend on memory and the pointers. -/
def Floats (f : State → List Byte × State) : Prop :=
  ∀ s : State, s.floating → (f s).2 = s ∧ ∀ (m : Memory) (a b : Half), (f (elsewhere s m a b)).1 = (f s).1

/-- A renderer floats where all it then does is to give a group in which memory and the pointers have no part. -/
theorem floats_of_eq {f : State → List Byte × State} {g : State → List Byte}
    (hf : ∀ s, s.floating → f s = (g s, s)) (hg : ∀ s m a b, g (elsewhere s m a b) = g s) : Floats f := fun s h =>
  ⟨congrArg Prod.snd (hf s h), fun m a b =>
    calc (f (elsewhere s m a b)).1
      _ = g (elsewhere s m a b) := congrArg Prod.fst (hf (elsewhere s m a b) h)
      _ = g s := hg s m a b
      _ = (f s).1 := (congrArg Prod.fst (hf s h)).symm⟩

/-- Settles O29: each shape of renderer floats, by its group past the last fetching slot. -/
theorem floatingBus : Obligations.FloatingBus := by
  unfold Obligations.FloatingBus
  intro r
  show Floats (runRenderer r)
  cases r with
  | border | sync | invalid => exact floats_of_eq (fun _ _ => rfl) fun _ _ _ _ => rfl
  | attrib => exact floats_of_eq (fun _ h => renderAttrib_of_floating h) fun _ _ _ _ => rfl
  | pixel_2c | pixel_2c_msb | pixel_2c_lsb | pixel_2c_lsb_msb | pixel_4c | pixel_4c_lsb | pixel_16c | pixel_256c =>
    exact floats_of_eq (fun _ h => pixelGroup_of_floating h _ _ _) fun _ _ _ _ => rfl
  | lpixel_2c | lpixel_2c_msb | lpixel_2c_lsb | lpixel_2c_lsb_msb | lpixel_4c | lpixel_4c_lsb | lpixel_16c
  | lpixel_256c => exact floats_of_eq (fun _ h => lpixelGroup_of_floating h _ _ _) fun _ _ _ _ => rfl
  | ch256_2c | ch256_2c_a0 | ch256_2c_a1 | ch256_2c_a0_a1 | ch256_4c | ch256_4c_a1 | ch256_16c | ch256_256c
  | ch128_2c | ch128_2c_a0 | ch128_2c_a1 | ch128_2c_a0_a1 | ch128_4c | ch128_4c_a1 | ch128_16c | ch128_256c
  | ch64_2c | ch64_2c_a0 | ch64_2c_a1 | ch64_2c_a0_a1 | ch64_4c | ch64_4c_a1 | ch64_16c | ch64_256c =>
    exact floats_of_eq (fun _ h => charGroup_of_floating h _ _ _ _) fun _ _ _ _ => rfl

/-! ## The shape of a group (R607) -/

theorem isTag_iff (t : Byte) : isTag t = true ↔ t = 1 ∨ t = 2 ∨ t = 4 ∨ t = 8 ∨ t = 16 := by
  simp only [isTag, Bool.or_eq_true, decide_eq_true_eq, or_assoc]

/-- One group is a tag and exactly as many bytes as it says. -/
theorem isGroup_iff (bs : List Byte) :
    IsGroup bs ↔ ∃ (t : Byte) (px : List Byte), bs = t :: px ∧ px.length = t.toNat ∧ isTag t = true := by
  cases bs with
  | nil => simp [IsGroup, areGroups]
  | cons t px =>
    simp only [IsGroup, areGroups, Bool.and_eq_true, decide_eq_true_eq, List.isEmpty_iff, List.drop_eq_nil_iff,
      List.cons.injEq]
    constructor
    · rintro ⟨⟨htag, hle⟩, hge⟩
      exact ⟨t, px, ⟨rfl, rfl⟩, Nat.le_antisymm hge hle, htag⟩
    · rintro ⟨_, _, ⟨rfl, rfl⟩, hlen, htag⟩
      exact ⟨⟨htag, hlen.ge⟩, hlen.le⟩

/-- Settles O30: every tag divides the slot's 16 pixels. -/
theorem groupShape : Obligations.GroupShape := by
  unfold Obligations.GroupShape
  intro r s
  obtain ⟨t, px, hgroup, hlen, htag⟩ := (isGroup_iff _).mp (isGroup_runRenderer s r)
  have htags := (isTag_iff t).mp htag
  refine ⟨t, px, hgroup, hlen, htags, ?_⟩
  rcases htags with rfl | rfl | rfl | rfl | rfl <;> rfl

/-! ## A slot that displays (R500, R520, R525) -/

/-- Past slot 7 the key's ACTIVE bit is display_en (R340). -/
theorem renderKey_of_display {s : State} (h : 8 ≤ s.vid.slot.toNat) :
    renderKey s = BitVec.ofBool s.vid.displayEn ++ (s.vid.vm ++ (s.vid.cm ++ (BitVec.ofBool s.vid.lsbAlt ++
      (BitVec.ofBool s.vid.msbAlt ++ (BitVec.ofBool s.vid.altInd0 ++ BitVec.ofBool s.vid.altInd1))))) := by
  rw [renderKey, decide_eq_true h, Bool.and_true]

/-- Settles O20: a row run alone is its renderer, and the slot is the margin rules, the key they leave, and its
renderer's group. -/
theorem slotDisplays : Obligations.SlotDisplays := by
  unfold Obligations.SlotDisplays
  refine ⟨fun r s => exec_renderer r s, ?_⟩
  intro s hf hslot hmore opens shown sync u key g
  have hseven : s.vid.slot ≠ 7 := by
    rw [ne_eq, slot_eq_seven_iff]
    omega
  have hu : margins s = u := by
    rw [margins_eq, openEvents_eq]
    simp only [u, shown, opens, sync, decide_eq_true_eq]
  have hkey : renderKey u = key := renderKey_of_display hslot
  have hwork : slotWork s = withGroup u g := by rw [slotWork_of_display hslot, hu, slotGroup_eq_withGroup, hkey]
  rw [exec_videoSlot hf, videoSlot_of_more hseven hmore, hwork]
  rfl

end Sys2Proof.Proofs
end

section
/-! PROOFS. Statements of 44_sound.md on the registers and the mixer: writes and reads (R700 to R716, R725, R726; O9 to
O13), the order of a tick (R730; O32), and what the mixer sums (R740 to R745; O37, O38). -/

namespace Sys2Proof.Proofs

open Sys2Proof Sys2Proof.Machine

/-! ## Register writes and reads (R700 to R716) -/

section Registers

variable {s : State} {i : Instr} {r : Fin 16} {v : Byte}

/-- A PW of a sound register in a running block. -/
theorem exec_soundWrite (hi : exec i s = perform (soundWrite r v) s) (hf : s.clk.faulted = false) :
    exec i s = .next { s with snd := s.snd.write r v, reply := .completed } := by
  rw [hi, perform_of_running _ hf]
  exact congrArg _ (complete_of_running hf)

/-- A PW of a register other than 4 and 9 stores the byte, and that is all. -/
theorem exec_soundStore (hi : exec i s = perform (soundWrite r v) s) (hf : s.clk.faulted = false) (h4 : r ≠ 4)
    (h9 : r ≠ 9) :
    exec i s = .next { s with snd := { s.snd with reg := s.snd.reg.set r v }, reply := .completed } := by
  rw [exec_soundWrite hi hf, Snd.write_of_plain s.snd r v h4 h9]

/-- A PR of a sound register in a running block. -/
theorem exec_soundRead (hi : exec i s = answerByte (soundRead r) s) (hf : s.clk.faulted = false) :
    exec i s = .next { s with reply := .byte s.snd.reg[r] } :=
  hi.trans (answerByte_of_running _ hf)

end Registers

/-- Settles O9: each of these writes is a plain store. -/
theorem soundWritePeriods : Obligations.SoundWritePeriods := by
  unfold Obligations.SoundWritePeriods
  intro s v hf
  have row (r : Fin 16) {i : Instr} (hi : exec i s = perform (soundWrite r v) s) := exec_soundStore hi hf
  exact ⟨row 0 rfl (by decide) (by decide), row 1 rfl (by decide) (by decide), row 2 rfl (by decide) (by decide),
    row 3 rfl (by decide) (by decide), row 5 rfl (by decide) (by decide), row 6 rfl (by decide) (by decide),
    row 7 rfl (by decide) (by decide), row 8 rfl (by decide) (by decide)⟩

/-- Settles O10: each of these writes is a plain store. -/
theorem soundWriteLevels : Obligations.SoundWriteLevels := by
  unfold Obligations.SoundWriteLevels
  intro s v hf
  have row (r : Fin 16) {i : Instr} (hi : exec i s = perform (soundWrite r v) s) := exec_soundStore hi hf
  exact ⟨row 10 rfl (by decide) (by decide), row 11 rfl (by decide) (by decide), row 12 rfl (by decide) (by decide),
    row 13 rfl (by decide) (by decide), row 14 rfl (by decide) (by decide), row 15 rfl (by decide) (by decide)⟩

/-- NoiseWidthChange after the store of register 4 masks to the width the new byte selects (R725). -/
theorem write_4_eq (n : Snd) (v : Byte) :
    n.write 4 v =
      { n with
        reg := n.reg.set 4 v
        lfsr :=
          if n.lfsr &&& lfsrMask (noiseWidth (v.extractLsb' 4 3)) = 0 then lfsrMask (noiseWidth (v.extractLsb' 4 3))
          else n.lfsr &&& lfsrMask (noiseWidth (v.extractLsb' 4 3)) } := by
  have hwidth : (n.store 4 v).width = noiseWidth (v.extractLsb' 4 3) := by
    simp [Snd.width, Snd.nw, Snd.store]
  rw [Snd.write_4, Snd.noiseWidthChange, hwidth]
  rfl

/-- EnvRestart after the store of register 9 takes ATT from the new byte, and EP from register 8 as it was (R726). -/
theorem write_9_eq (n : Snd) (v : Byte) :
    n.write 9 v =
      { n with
        reg := n.reg.set 9 v
        envPos := if v.getLsbD 2 then 0 else 31
        envDir := if v.getLsbD 2 then .up else .down
        envCnt := n.reg[8] } := by
  have hatt : (n.store 9 v).att = v.getLsbD 2 := by simp [Snd.att, Snd.store]
  have hep : (n.store 9 v).ep = n.reg[8] := by simp [Snd.ep, Snd.store]
  rw [Snd.write_9, Snd.envRestart, hatt, hep]
  rfl

/-- Settles O11, by what the noise width change does after the store. -/
theorem soundWriteReg4 : Obligations.SoundWriteReg4 := by
  unfold Obligations.SoundWriteReg4
  intro s v hf
  rw [exec_soundWrite (r := 4) rfl hf, write_4_eq]

/-- Settles O12, by what the restart does after the store. -/
theorem soundWriteReg9 : Obligations.SoundWriteReg9 := by
  unfold Obligations.SoundWriteReg9
  intro s v hf
  rw [exec_soundWrite (r := 9) rfl hf, write_9_eq]

/-- Settles O13: each of the sixteen reads answers its register. -/
theorem soundReadBack : Obligations.SoundReadBack := by
  unfold Obligations.SoundReadBack
  intro s hf
  have row (r : Fin 16) {i : Instr} (hi : exec i s = answerByte (soundRead r) s) := exec_soundRead hi hf
  exact ⟨row 0 rfl, row 1 rfl, row 2 rfl, row 3 rfl, row 4 rfl, row 5 rfl, row 6 rfl, row 7 rfl, row 8 rfl, row 9 rfl,
    row 10 rfl, row 11 rfl, row 12 rfl, row 13 rfl, row 14 rfl, row 15 rfl⟩

/-! ## The tick (R730) -/

theorem exec_soundTick {s : State} (hf : s.clk.faulted = false) :
    exec .soundTick s = .next { soundTick s with reply := .completed } :=
  (perform_of_running soundTick hf).trans
    (congrArg _ (complete_of_running ((congrArg Clk.faulted (soundTick_clk s)).trans hf)))

/-- Settles O32, by everything a sound tick can do. -/
theorem soundTickOrder : Obligations.SoundTickOrder := by
  unfold Obligations.SoundTickOrder
  intro s hf
  rw [exec_soundTick hf, soundTick_eq]
  rfl

/-! ## The mixer (R740 to R745) -/

/-- A channel's contribution, with the fields of its registers written out (R740, R742, R743). -/
theorem contribution_eq (p : Params) (n : Snd) (side : Fin 2) (c : Fin 3) :
    contribution p n side c =
      if (n.lev side c).getLsbD 6 then (n.lev side c).toNat % 64 * p.dacGain
      else if n.gate side c then
        p.ampTable.getD (if (n.lev side c).getLsbD 4 then n.envPos.toNat / 2 else (n.lev side c).toNat % 16) 0
      else 0 := by
  have hdac : ((n.lev side c).extractLsb' 0 6).toNat = (n.lev side c).toNat % 64 := by simp
  rw [contribution, hdac, low_nibble_toNat]

/-- An amplitude is an entry of the table or the default 0, so three of them fit a sample (R10). -/
theorem amplitude_le {p : Params} (h : p.headroom) (i : Nat) : 3 * p.ampTable.getD i 0 ≤ 65535 := by
  obtain ⟨hamp, -⟩ := h
  rw [List.getD_eq_getElem?_getD]
  cases hi : p.ampTable[i]? with
  | none => simp
  | some a => exact hamp a (List.mem_of_getElem? hi)

/-- Three DAC levels fit a sample (R10). -/
theorem dacLevel_le {p : Params} (h : p.headroom) {x : Nat} (hx : x < 64) : 3 * (x * p.dacGain) ≤ 65535 := by
  obtain ⟨-, hdac⟩ := h
  have hmul : x * p.dacGain ≤ 63 * p.dacGain := Nat.mul_le_mul_right _ (by omega)
  omega

/-- A channel contributes at most a third of a sample's range. -/
theorem contribution_le {p : Params} (h : p.headroom) (n : Snd) (side : Fin 2) (c : Fin 3) :
    3 * contribution p n side c ≤ 65535 := by
  rw [contribution_eq]
  split
  case isTrue => exact dacLevel_le h (Nat.mod_lt _ (by decide))
  case isFalse =>
    split
    case isTrue => exact amplitude_le h _
    case isFalse => decide

theorem sideLevel_le {p : Params} (h : p.headroom) (n : Snd) (side : Fin 2) : sideLevel p n side ≤ 65535 := by
  have h0 := contribution_le h n side 0
  have h1 := contribution_le h n side 1
  have h2 := contribution_le h n side 2
  rw [sideLevel]
  omega

/-- Settles O38, from a channel's contribution and its bound. -/
theorem mixerLevels : Obligations.MixerLevels := by
  unfold Obligations.MixerLevels
  intro p n side
  refine ⟨fun c => contribution_eq p n side c, rfl, fun hlegal => ?_⟩
  obtain ⟨-, -, -, -, -, -, -, -, hheadroom, -⟩ := hlegal
  exact sideLevel_le hheadroom n side

/-- A level register of 0 is no DAC level, and no volume: with amplitude 0 at level 0, its channel is silent (R741). -/
theorem contribution_of_lev_zero {p : Params} {n : Snd} {side : Fin 2} {c : Fin 3} (hamp : p.ampTable.getD 0 0 = 0)
    (h : n.lev side c = 0) : contribution p n side c = 0 := by
  rw [contribution_eq, h]
  simpa using fun _ => hamp

theorem sideLevel_of_lev_zero {p : Params} {n : Snd} {side : Fin 2} (hamp : p.ampTable.getD 0 0 = 0)
    (h : ∀ c, n.lev side c = 0) : sideLevel p n side = 0 := by
  rw [sideLevel, contribution_of_lev_zero hamp (h 0), contribution_of_lev_zero hamp (h 1),
    contribution_of_lev_zero hamp (h 2)]

/-- The level registers are registers 10 to 15 (R720). -/
theorem lev_zero_of_reg {n : Snd} (h : ∀ r : Fin 16, 10 ≤ r.val → n.reg[r] = 0) (side : Fin 2) (c : Fin 3) :
    n.lev side c = 0 := h ⟨10 + 3 * side.val + c.val, by omega⟩ (by simp only; omega)

/-- Settles O37: a tick keeps the registers, and its last event is the sample of silent channels. -/
theorem silence : Obligations.Silence := by
  unfold Obligations.Silence
  intro s hf hlegal hreg
  obtain ⟨-, -, -, -, -, -, -, ⟨-, hamp⟩, -, -⟩ := hlegal
  have hlev : ∀ side c, s.snd.tick.lev side c = 0 := lev_zero_of_reg (by rw [Snd.tick_reg]; exact hreg)
  have hsample : sampleEvent s.params s.snd.tick = .sample 0 0 := by
    rw [sampleEvent, sideLevel_of_lev_zero hamp (hlev 0), sideLevel_of_lev_zero hamp (hlev 1)]
    rfl
  refine ⟨_, exec_soundTick hf, ?_⟩
  rw [soundTick_eq, hsample]
  exact List.getLast?_concat

end Sys2Proof.Proofs
end

section
/-! PROOFS. Statements of 44_sound.md on the generators over many ticks: when a tone fires (R721, R722; O34), and the
positions of the envelope after a restart (R729; O36). -/

namespace Sys2Proof.Proofs

open Sys2Proof Sys2Proof.Machine

/-! ## A tone over one tick (R721, R722) -/

theorem period_of_reg_eq {n m : Snd} (h : m.reg = n.reg) (c : Fin 3) : m.period c = n.period c := by
  rw [Snd.period.eq_def, Snd.period.eq_def, h]

/-- Channel c is in the same state in both sound units. -/
structure SameTone (c : Fin 3) (n m : Snd) : Prop where
  reg : m.reg = n.reg
  cnt : m.toneCnt[c] = n.toneCnt[c]
  out : m.toneOut[c] = n.toneOut[c]

theorem SameTone.trans {c : Fin 3} {n m l : Snd} (h : SameTone c n m) (k : SameTone c m l) : SameTone c n l :=
  ⟨k.reg.trans h.reg, k.cnt.trans h.cnt, k.out.trans h.out⟩

/-- The step of another channel. -/
theorem sameTone_toneStep {c d : Fin 3} (n : Snd) (h : d ≠ c) : SameTone c n (n.toneStep d) := by
  have hne : d.val ≠ c.val := fun e => h (Fin.ext e)
  by_cases hcnt : n.toneCnt[d] = 0
  · rw [toneStep_of_zero hcnt]; constructor <;> simp [hne]
  · rw [toneStep_of_pos hcnt]; constructor <;> simp [hne]

theorem sameTone_noiseStep (c : Fin 3) (n : Snd) : SameTone c n n.noiseStep := by
  unfold Snd.noiseStep
  split <;> exact ⟨rfl, rfl, rfl⟩

theorem sameTone_envMove {c : Fin 3} {n m : Snd} (h : SameTone c n m) : SameTone c n m.envMove := by
  obtain ⟨hreg, hcnt, hout⟩ := h
  unfold Snd.envMove
  simp only
  split <;> exact ⟨hreg, hcnt, hout⟩

theorem sameTone_envStep (c : Fin 3) (n : Snd) : SameTone c n n.envStep := by
  by_cases h : n.envCnt = 0
  · rw [envStep_of_zero h]; exact sameTone_envMove ⟨rfl, rfl, rfl⟩
  · rw [envStep_of_pos h]; exact ⟨rfl, rfl, rfl⟩

/-- What a step of channel c leaves: the same registers, and the count and output of the countdown. -/
structure ToneTicked (c : Fin 3) (n m : Snd) : Prop where
  reg : m.reg = n.reg
  cnt : m.toneCnt[c] = (countdown n.toneCnt[c] (n.period c)).1
  out : m.toneOut[c] = (n.toneOut[c] ^^ (countdown n.toneCnt[c] (n.period c)).2)

theorem toneTicked_toneStep (c : Fin 3) (n : Snd) : ToneTicked c n (n.toneStep c) := by
  by_cases h : n.toneCnt[c] = 0
  · rw [toneStep_of_zero h]
    exact ⟨rfl, by rw [countdown_of_zero _ h]; simp, by rw [countdown_of_zero _ h]; simp⟩
  · rw [toneStep_of_pos h]
    exact ⟨rfl, by rw [countdown_of_pos _ h]; simp, by rw [countdown_of_pos _ h]; simp⟩

theorem ToneTicked.of_same {c : Fin 3} {n m l k : Snd} (hpre : SameTone c n m) (h : ToneTicked c m l)
    (hpost : SameTone c l k) : ToneTicked c n k where
  reg := hpost.reg.trans (h.reg.trans hpre.reg)
  cnt := by rw [hpost.cnt, h.cnt, hpre.cnt, period_of_reg_eq hpre.reg]
  out := by rw [hpost.out, h.out, hpre.out, hpre.cnt, period_of_reg_eq hpre.reg]

/-- A tick steps each channel once: the other generators' steps leave it as it is (R730). -/
theorem toneTicked_tick (c : Fin 3) (n : Snd) : ToneTicked c n n.tick := by
  have hrest (m : Snd) : SameTone c m m.noiseStep.envStep := (sameTone_noiseStep c m).trans (sameTone_envStep c _)
  have hself (m : Snd) : SameTone c m m := ⟨rfl, rfl, rfl⟩
  match c with
  | 0 =>
    exact .of_same (hself n) (toneTicked_toneStep 0 n)
      (((sameTone_toneStep _ (by decide)).trans (sameTone_toneStep _ (by decide))).trans (hrest _))
  | 1 =>
    exact .of_same (sameTone_toneStep n (by decide)) (toneTicked_toneStep 1 _)
      ((sameTone_toneStep _ (by decide)).trans (hrest _))
  | 2 =>
    exact .of_same ((sameTone_toneStep n (by decide)).trans (sameTone_toneStep _ (by decide)))
      (toneTicked_toneStep 2 _) (hrest _)

/-! ## A tone over many ticks -/

/-- How often a countdown of count cnt and period T has fired after k ticks. -/
def firings (cnt T k : Nat) : Nat := if k ≤ cnt then 0 else (k - cnt - 1) / (T + 1) + 1

theorem firings_zero (cnt T : Nat) : firings cnt T 0 = 0 := if_pos (Nat.zero_le _)

/-- A countdown at 0 fires at the next tick, and goes on from its period. -/
theorem firings_zero_succ (T k : Nat) : firings 0 T (k + 1) = firings T T k + 1 := by
  unfold firings
  rw [if_neg (by omega)]
  by_cases hk : k ≤ T
  · rw [if_pos hk, Nat.div_eq_of_lt (by omega)]
  · rw [if_neg hk, Nat.div_eq_sub_div (by omega) (by omega), show k + 1 - 0 - 1 - (T + 1) = k - T - 1 by omega]

/-- A countdown above 0 goes one down. -/
theorem firings_succ_succ (cnt T k : Nat) : firings (cnt + 1) T (k + 1) = firings cnt T k := by
  simp only [firings, Nat.add_le_add_iff_right, Nat.add_sub_add_right]

/-- One tick of a countdown takes its firing, if any, off the count of those to come. -/
theorem firings_succ (cnt period : BitVec 12) (k : Nat) :
    firings cnt.toNat period.toNat (k + 1) =
      firings (countdown cnt period).1.toNat period.toNat k + (countdown cnt period).2.toNat := by
  by_cases h : cnt = 0
  · rw [countdown_of_zero _ h, h]
    exact firings_zero_succ _ k
  · have hpred : cnt.toNat = (cnt - 1).toNat + 1 := by bv_omega
    rw [countdown_of_pos _ h, hpred]
    exact firings_succ_succ _ _ k

/-- The parity of a count with one more or no more. -/
theorem odd_add_toNat (a : Nat) (b : Bool) : decide ((a + b.toNat) % 2 = 1) = (b ^^ decide (a % 2 = 1)) := by
  cases b with
  | false => simp
  | true =>
    rcases Nat.mod_two_eq_zero_or_one a with h | h <;> simp [Nat.add_mod, h]

theorem iterate_tick_toneOut (n : Snd) (c : Fin 3) (k : Nat) :
    (Snd.tick^[k] n).toneOut[c] =
      (n.toneOut[c] ^^ decide (firings n.toneCnt[c].toNat (n.period c).toNat k % 2 = 1)) := by
  induction k generalizing n with
  | zero => simp [firings_zero]
  | succ k ih =>
    obtain ⟨hreg, hcnt, hout⟩ := toneTicked_tick c n
    rw [Function.iterate_succ_apply, ih, hcnt, hout, period_of_reg_eq hreg, firings_succ, odd_add_toNat, Bool.xor_assoc]

/-- Settles O34, by induction on the number of ticks. -/
theorem toneFirings : Obligations.ToneFirings := by
  unfold Obligations.ToneFirings
  exact fun n c k => iterate_tick_toneOut n c k

/-! ## The envelope over one tick (R727) -/

/-- The envelope of n: its registers, its position, its direction, and a count that fires at every tick (EP = 0). -/
structure EnvAt (reg : Vector Byte 16) (pos : Nat) (dir : Dir) (n : Snd) : Prop where
  reg : n.reg = reg
  ep : n.ep = 0
  cnt : n.envCnt = 0
  pos : n.envPos.toNat = pos
  dir : n.envDir = dir

section Tick

variable {reg : Vector Byte 16} {pos pos' : Nat} {dir dir' : Dir} {n : Snd}

/-- The generators before the envelope keep it (R730). -/
theorem EnvAt.noiseStep (h : EnvAt reg pos dir n) :
    EnvAt reg pos dir (((n.toneStep 0).toneStep 1).toneStep 2).noiseStep := by
  obtain ⟨hreg, hep, hcnt, hpos, hdir⟩ := h
  unfold Snd.noiseStep
  split <;> exact ⟨hreg, hep, hcnt, hpos, hdir⟩

/-- With EP = 0 a tick makes the ramp's move. -/
theorem EnvAt.tick (h : EnvAt reg pos dir n)
    (hmove : ∀ m, EnvAt reg pos dir m → EnvAt reg pos' dir' m.envMove) : EnvAt reg pos' dir' n.tick := by
  obtain ⟨hreg, hep, hcnt, hpos, hdir⟩ := h.noiseStep
  rw [Snd.tick, envStep_of_zero hcnt]
  exact hmove _ ⟨hreg, hep, hep, hpos, hdir⟩

/-- A tick inside the ramp. -/
theorem EnvAt.tick_inside (h : EnvAt reg pos dir n) (hnext : (pos : Int) + dir.toInt = pos') (hfit : pos' ≤ 31) :
    EnvAt reg pos' dir n.tick := by
  refine h.tick fun m ⟨hreg, hep, hcnt, hpos, hdir⟩ => ?_
  have hcand : (m.envPos.toNat : Int) + m.envDir.toInt = pos' := by rw [hpos, hdir, hnext]
  rw [envMove_of_inside (by omega) (by omega)]
  exact ⟨hreg, hep, hcnt, by rw [hcand, BitVec.ofInt_natCast, BitVec.toNat_ofNat]; omega, hdir⟩

/-- The end of a ramp: 31 upwards, 0 downwards. -/
def rampEnd (up : Bool) : BitVec 5 := if up then 31 else 0

/-- The direction of a ramp. -/
def rampDir (up : Bool) : Dir := if up then .up else .down

/-- A tick at the end of a ramp overruns (R728). -/
theorem EnvAt.tick_end {up : Bool} (h : EnvAt reg (rampEnd up).toNat (rampDir up) n) :
    EnvAt reg (overrun n.cont n.hold n.alt n.att (rampEnd up) (rampDir up)).1.toNat
      (overrun n.cont n.hold n.alt n.att (rampEnd up) (rampDir up)).2 n.tick := by
  have hn := h.reg
  refine h.tick fun m ⟨hreg, hep, hcnt, hpos, hdir⟩ => ?_
  have hpos' : m.envPos = rampEnd up := BitVec.eq_of_toNat_eq hpos
  have houtside : ¬(0 ≤ (m.envPos.toNat : Int) + m.envDir.toInt ∧ (m.envPos.toNat : Int) + m.envDir.toInt ≤ 31) := by
    rw [hpos', hdir]
    cases up <;> decide
  have hover : overrun m.cont m.hold m.alt m.att m.envPos m.envDir =
      overrun n.cont n.hold n.alt n.att (rampEnd up) (rampDir up) := by
    simp only [Snd.cont, Snd.hold, Snd.alt, Snd.att, hreg, hn, hpos', hdir]
  rw [Snd.envMove, if_neg houtside, hover]
  exact ⟨hreg, hep, hcnt, rfl, rfl⟩

end Tick

/-! ## The envelope over many ticks -/

/-- The position k ticks into a ramp from p. -/
def rampPos (dir : Dir) (p k : Nat) : Nat :=
  match dir with
  | .down => p - k
  | .still => p
  | .up => p + k

/-- The ramp from p has not ended after k ticks. -/
def RampFits (dir : Dir) (p k : Nat) : Prop :=
  match dir with
  | .down => k ≤ p
  | .still => True
  | .up => p + k ≤ 31

/-- Inside a ramp, k ticks are k moves. -/
theorem EnvAt.iterate_inside {reg : Vector Byte 16} {p : Nat} {dir : Dir} {n : Snd} (h : EnvAt reg p dir n) (k : Nat)
    (hfits : RampFits dir p k) : EnvAt reg (rampPos dir p k) dir (Snd.tick^[k] n) := by
  have hp : p ≤ 31 := by have hlt := n.envPos.isLt; have hpos := h.pos; omega
  induction k with
  | zero => cases dir <;> exact h
  | succ k ih =>
    rw [Function.iterate_succ_apply']
    cases dir with
    | down =>
      simp only [RampFits, rampPos] at *
      exact (ih (by omega)).tick_inside (by simp only [Dir.toInt]; omega) (by omega)
    | still =>
      exact (ih trivial).tick_inside (by simp [rampPos, Dir.toInt]) hp
    | up =>
      simp only [RampFits, rampPos] at *
      exact (ih (by omega)).tick_inside (by simp only [Dir.toInt]; omega) (by omega)

/-- A ramp upwards starts at 0, and one downwards at 31 (R726). -/
def rampStart (up : Bool) : Nat := if up then 0 else 31

/-- The envelope's 64 positions after a restart: the ramp's 32, then those from where its end leads. -/
def envPosition (cont hold alt att : Bool) (k : Nat) : Nat :=
  if k < 32 then rampPos (rampDir att) (rampStart att) k
  else
    rampPos (overrun cont hold alt att (rampEnd att) (rampDir att)).2
      (overrun cont hold alt att (rampEnd att) (rampDir att)).1.toNat (k - 32)

theorem rampFits_rampStart (up : Bool) {k : Nat} (hk : k < 32) : RampFits (rampDir up) (rampStart up) k := by
  cases up with
  | false => exact (by omega : k ≤ 31)
  | true => exact (by omega : 0 + k ≤ 31)

theorem rampPos_rampStart (up : Bool) : rampPos (rampDir up) (rampStart up) 31 = (rampEnd up).toNat := by
  cases up <;> rfl

/-- Where the end of a ramp leads, the envelope holds, or has a whole ramp before it (R728). -/
theorem rampFits_overrun (cont hold alt att : Bool) {k : Nat} (hk : k < 32) :
    RampFits (overrun cont hold alt att (rampEnd att) (rampDir att)).2
      (overrun cont hold alt att (rampEnd att) (rampDir att)).1.toNat k := by
  match cont, hold, alt with
  | false, _, _ => trivial
  | true, true, false => trivial
  | true, true, true => trivial
  | true, false, false =>
    cases att
    exacts [rampFits_rampStart false hk, rampFits_rampStart true hk]
  | true, false, true =>
    cases att
    exacts [rampFits_rampStart true hk, rampFits_rampStart false hk]

/-- From the start of a ramp. -/
theorem EnvAt.iterate_restart {reg : Vector Byte 16} {n : Snd} {k : Nat}
    (h : EnvAt reg (rampStart n.att) (rampDir n.att) n) (hk : k < 64) :
    (Snd.tick^[k] n).envPos.toNat = envPosition n.cont n.hold n.alt n.att k := by
  have hramp {j : Nat} (hj : j < 32) := h.iterate_inside j (rampFits_rampStart n.att hj)
  by_cases hlow : k < 32
  · rw [envPosition, if_pos hlow]
    exact (hramp hlow).pos
  · obtain ⟨j, rfl⟩ : ∃ j, k = j + 32 := ⟨k - 32, by omega⟩
    have hend : EnvAt reg (rampEnd n.att).toNat (rampDir n.att) (Snd.tick^[31] n) :=
      rampPos_rampStart n.att ▸ hramp (by decide)
    have hflags : (Snd.tick^[31] n).reg = n.reg := hend.reg.trans h.reg.symm
    have hover := hend.tick_end
    rw [← Function.iterate_succ_apply' Snd.tick 31 n] at hover
    simp only [Snd.cont, Snd.hold, Snd.alt, Snd.att, hflags] at hover
    rw [envPosition, if_neg hlow, Function.iterate_add_apply, Nat.add_sub_cancel]
    exact (hover.iterate_inside j (rampFits_overrun _ _ _ _ (by omega))).pos

/-! ## The table of R729 -/

/-- The shape number of four flags. -/
def shapeCode (cont hold alt att : Bool) : Nat := 8 * cont.toNat + 4 * att.toNat + 2 * alt.toNat + hold.toNat

theorem envelopeCode_eq (v : Byte) :
    envelopeCode v = shapeCode (v.getLsbD 3) (v.getLsbD 0) (v.getLsbD 1) (v.getLsbD 2) := by
  have hbits {i : Nat} (hi : i < 4) : v.getLsbD i = (v.extractLsb' 0 4).getLsbD i := by simp [hi]
  rw [envelopeCode, hbits (i := 0) (by decide), hbits (i := 1) (by decide), hbits (i := 2) (by decide),
    hbits (i := 3) (by decide)]
  generalize v.extractLsb' 0 4 = h
  revert h; decide

/-- The eight shapes with CONT 0 (rows 0 to 7 of the table). -/
theorem envelopeShape_of_lt {h : Nat} (hh : h < 8) (k : Nat) :
    envelopeShape h k = if k < 32 then (if h < 4 then 31 - k else k) else 0 := by
  interval_cases h <;> rfl

theorem shapeCode_of_not_cont (hold alt att : Bool) :
    shapeCode false hold alt att < 8 ∧ (shapeCode false hold alt att < 4 ↔ att = false) := by
  revert hold alt att; decide

/-- The ramp of the first 32 ticks. -/
theorem rampPos_start_eq (up : Bool) (k : Nat) :
    rampPos (rampDir up) (rampStart up) k = if up = false then 31 - k else k := by
  cases up <;> simp [rampPos, rampDir, rampStart]

/-- The table, by the rows of R728. -/
theorem envelopeShape_eq (cont hold alt att : Bool) {k : Nat} (hk : k < 64) :
    envelopeShape (shapeCode cont hold alt att) k = envPosition cont hold alt att k := by
  rw [envPosition, rampPos_start_eq]
  match cont, hold, alt with
  | false, hold, alt =>
    obtain ⟨hlt, hatt⟩ := shapeCode_of_not_cont hold alt att
    simp only [envelopeShape_of_lt hlt, hatt]
    rfl
  | true, false, false =>
    cases att <;> simp [shapeCode, envelopeShape, overrun, rampPos, rampDir] <;> split_ifs <;> omega
  | true, false, true =>
    cases att <;> simp [shapeCode, envelopeShape, overrun, rampPos, rampDir, rampEnd, Dir.neg]
    split_ifs <;> omega
  | true, true, false => cases att <;> simp [shapeCode, envelopeShape, overrun, rampPos, rampEnd]
  | true, true, true => cases att <;> simp [shapeCode, envelopeShape, overrun, rampPos, rampEnd]

/-- The flags after a write of register 9 are the byte's, and the envelope is at the start of its ramp (R726). -/
theorem envAt_write_9 {n : Snd} (v : Byte) (hep : n.reg[8] = 0) :
    EnvAt (n.reg.set 9 v) (rampStart (n.write 9 v).att) (rampDir (n.write 9 v).att) (n.write 9 v) := by
  have hatt : (n.write 9 v).att = v.getLsbD 2 := by simp [write_9_eq, Snd.att]
  rw [hatt, write_9_eq]
  exact ⟨rfl, by simp [Snd.ep, hep], hep, by cases v.getLsbD 2 <;> rfl, rfl⟩

/-- Settles O36: the positions after a restart are those of the ramp and its overrun, which the table lists. -/
theorem envelopeSequences : Obligations.EnvelopeSequences := by
  unfold Obligations.EnvelopeSequences
  intro n v k hep hk
  rw [(envAt_write_9 v hep).iterate_restart hk, envelopeCode_eq, envelopeShape_eq _ _ _ _ hk]
  simp [write_9_eq, Snd.cont, Snd.hold, Snd.alt, Snd.att]

end Sys2Proof.Proofs
end

section
/-! PROOFS. The period of the noise register (44_sound.md R724; O35). A shift is linear over GF(2), so 2 ^ b shifts are b
squarings of its columns; and a state that comes back after N shifts, and not after N / p for any prime p that divides N,
first comes back after N. -/

namespace Sys2Proof.Proofs

open Sys2Proof Sys2Proof.Machine

/-! ## Linear maps of the register, by their columns -/

/-- f takes the exclusive or of two registers to that of their images. -/
def XorLinear (f : BitVec 17 → BitVec 17) : Prop := ∀ x y, f (x ^^^ y) = f x ^^^ f y

theorem XorLinear.zero {f : BitVec 17 → BitVec 17} (h : XorLinear f) : f 0 = 0 := by
  have hsum := h 0 0
  rwa [BitVec.xor_self, BitVec.xor_self] at hsum

/-- The sum of the columns at the 1 bits of x, the first column at bit 0. -/
def combine : List (BitVec 17) → BitVec 17 → BitVec 17
  | [], _ => 0
  | c :: cs, x => (if x.getLsbD 0 then c else 0) ^^^ combine cs (x >>> 1)

theorem xorLinear_combine (cs : List (BitVec 17)) : XorLinear (combine cs) := by
  induction cs with
  | nil => exact fun _ _ => (BitVec.xor_self (x := 0)).symm
  | cons c cs ih =>
    intro x y
    have hbit : (if (x ^^^ y).getLsbD 0 then c else 0) =
        (if x.getLsbD 0 then c else 0) ^^^ (if y.getLsbD 0 then c else 0) := by
      rw [BitVec.getLsbD_xor]
      cases x.getLsbD 0 <;> cases y.getLsbD 0 <;> simp
    rw [combine, combine, combine, BitVec.ushiftRight_xor_distrib, ih, hbit]
    ac_rfl

theorem combine_map {f : BitVec 17 → BitVec 17} (h : XorLinear f) (cs : List (BitVec 17)) (x : BitVec 17) :
    combine (cs.map f) x = f (combine cs x) := by
  induction cs generalizing x with
  | nil => exact h.zero.symm
  | cons c cs ih =>
    rw [List.map_cons, combine, combine, ih, h]
    congr 1
    split
    · rfl
    · exact h.zero.symm

/-- The registers with one bit. -/
def unitColumns : List (BitVec 17) := (List.range' 0 17).map (BitVec.twoPow 17)

/-- The columns with one bit from i to i + n − 1 put the low n bits of x there. -/
theorem combine_units_getLsbD (n i : Nat) (x : BitVec 17) {j : Nat} (hj : j < 17) :
    (combine ((List.range' i n).map (BitVec.twoPow 17)) x).getLsbD j =
      (decide (i ≤ j ∧ j < i + n) && x.getLsbD (j - i)) := by
  induction n generalizing i x with
  | zero => simp [combine]
  | succ n ih =>
    have hunit : (if x.getLsbD 0 then BitVec.twoPow 17 i else 0).getLsbD j = (x.getLsbD 0 && decide (i = j)) := by
      cases x.getLsbD 0 with
      | false => simp
      | true => simp [BitVec.getLsbD_twoPow]; omega
    rw [List.range'_succ, List.map_cons, combine, BitVec.getLsbD_xor, ih, BitVec.getLsbD_ushiftRight, hunit]
    rcases Nat.lt_trichotomy i j with h | rfl | h
    · rw [show 1 + (j - (i + 1)) = j - i by omega]
      simp [show i ≠ j by omega, show i + 1 ≤ j by omega, h.le, show i + 1 + n = i + (n + 1) by omega]
    · simp
    · simp [show i ≠ j by omega, show ¬i + 1 ≤ j by omega, show ¬i ≤ j by omega]

theorem combine_unitColumns (x : BitVec 17) : combine unitColumns x = x := by
  refine BitVec.eq_of_getLsbD_eq fun j hj => ?_
  rw [unitColumns, combine_units_getLsbD 17 0 x hj]
  simp [hj]

/-- A linear map is the combination of the images of the registers with one bit. -/
theorem XorLinear.eq_combine {f : BitVec 17 → BitVec 17} (h : XorLinear f) : f = combine (unitColumns.map f) := by
  funext x
  rw [combine_map h, combine_unitColumns]

/-! ## Many steps by repeated squaring -/

/-- n steps of the map of columns cs, for n below 2 ^ b: the bits of n select the squarings that take part. -/
def jump : Nat → List (BitVec 17) → Nat → BitVec 17 → BitVec 17
  | 0, _, _, x => x
  | b + 1, cs, n, x => jump b (cs.map (combine cs)) (n / 2) (if n % 2 = 1 then combine cs x else x)

theorem combine_square (cs : List (BitVec 17)) : combine (cs.map (combine cs)) = (combine cs)^[2] :=
  funext (combine_map (xorLinear_combine cs) cs)

theorem jump_eq_iterate (b : Nat) (cs : List (BitVec 17)) {n : Nat} (hn : n < 2 ^ b) (x : BitVec 17) :
    jump b cs n x = (combine cs)^[n] x := by
  induction b generalizing cs n x with
  | zero =>
    obtain rfl : n = 0 := by simpa using hn
    rfl
  | succ b ih =>
    have hhalf : n / 2 < 2 ^ b := by omega
    have hfirst : (if n % 2 = 1 then combine cs x else x) = (combine cs)^[n % 2] x := by
      rcases Nat.mod_two_eq_zero_or_one n with h | h <;> rw [h] <;> rfl
    rw [jump, ih _ hhalf, combine_square, hfirst, ← Function.iterate_mul, ← Function.iterate_add_apply,
      Nat.div_add_mod]

/-! ## The shift is linear -/

theorem lfsrBit_xor (w : Nat) (x y : BitVec 17) : lfsrBit w (x ^^^ y) = (lfsrBit w x ^^ lfsrBit w y) := by
  simp only [lfsrBit, BitVec.getLsbD_xor, Bool.xor_assoc, Bool.xor_left_comm]

/-- Bit i of a shifted register: the new low bit, or the bit below, within the width. -/
theorem lfsrNext_getLsbD {w i : Nat} (x : BitVec 17) (hi : i < 17) :
    (lfsrNext w x).getLsbD i = ((if i = 0 then lfsrBit w x else x.getLsbD (i - 1)) && (lfsrMask w).getLsbD i) := by
  rw [lfsrNext, BitVec.getLsbD_and, BitVec.getLsbD_or, BitVec.getLsbD_shiftLeft]
  cases i <;> simp [hi]

theorem xorLinear_lfsrNext (w : Nat) : XorLinear (lfsrNext w) := by
  intro x y
  refine BitVec.eq_of_getLsbD_eq fun i hi => ?_
  rw [BitVec.getLsbD_xor, lfsrNext_getLsbD _ hi, lfsrNext_getLsbD _ hi, lfsrNext_getLsbD _ hi, lfsrBit_xor,
    BitVec.getLsbD_xor, ← Bool.and_xor_distrib_right]
  split <;> rfl

theorem iterate_lfsrNext_eq_jump {w n : Nat} (hn : n < 2 ^ w) (x : BitVec 17) :
    (lfsrNext w)^[n] x = jump w (unitColumns.map (lfsrNext w)) n x := by
  rw [jump_eq_iterate w _ hn, ← (xorLinear_lfsrNext w).eq_combine]

/-! ## First returns -/

/-- A point that comes back after the product of some primes, and after no quotient by one of them, does not come back
before. -/
theorem no_earlier_return {α : Type} {f : α → α} {x : α} {ps : List Nat} (hprime : ∀ p ∈ ps, p.Prime)
    (hreturn : f^[ps.prod] x = x) (hquot : ∀ p ∈ ps, f^[ps.prod / p] x ≠ x) {k : Nat} (h0 : 0 < k)
    (hk : k < ps.prod) : f^[k] x ≠ x := by
  intro hback
  have hdvd : Function.minimalPeriod f x ∣ ps.prod := Function.IsPeriodicPt.minimalPeriod_dvd hreturn
  have hle : Function.minimalPeriod f x ≤ k := Function.IsPeriodicPt.minimalPeriod_le h0 hback
  obtain ⟨d, hd⟩ := hdvd
  have hd1 : d ≠ 1 := by rintro rfl; omega
  obtain ⟨p, hp, e, rfl⟩ := Nat.exists_prime_and_dvd hd1
  have hmem : p ∈ ps := mem_list_primes_of_dvd_prod hp.prime (fun q hq => (hprime q hq).prime)
    ⟨Function.minimalPeriod f x * e, by rw [hd]; ring⟩
  refine hquot p hmem ?_
  have hquotient : ps.prod / p = Function.minimalPeriod f x * e := by
    rw [hd, Nat.mul_left_comm, Nat.mul_div_cancel_left _ hp.pos]
  rw [hquotient]
  exact (Function.isPeriodicPt_minimalPeriod f x).mul_const e

/-- The prime factors of 2 ^ w − 1, for the widths of R321. -/
def periodPrimes (w : Nat) : List Nat :=
  match w with
  | 4 => [3, 5]
  | 5 => [31]
  | 7 => [127]
  | 9 => [7, 73]
  | 11 => [23, 89]
  | 15 => [7, 31, 151]
  | _ => [131071]

theorem periodPrimes_prime (w : Nat) : ∀ p ∈ periodPrimes w, p.Prime := by
  unfold periodPrimes
  split <;> simp <;> norm_num

theorem periodPrimes_prod {w : Nat} (hw : w ∈ [4, 5, 7, 9, 11, 15, 17]) : (periodPrimes w).prod = 2 ^ w - 1 := by
  revert w; decide

/-- From all ones, each width's register is back after 2 ^ w − 1 shifts. -/
theorem jump_period : ∀ w ∈ [4, 5, 7, 9, 11, 15, 17],
    jump w (unitColumns.map (lfsrNext w)) (2 ^ w - 1) (lfsrMask w) = lfsrMask w := by
  decide +kernel

/-- It is not back after a quotient of that by a prime. -/
theorem jump_quotient : ∀ w ∈ [4, 5, 7, 9, 11, 15, 17], ∀ p ∈ periodPrimes w,
    jump w (unitColumns.map (lfsrNext w)) ((2 ^ w - 1) / p) (lfsrMask w) ≠ lfsrMask w := by
  decide +kernel

/-- Settles O35: 2 ^ W − 1 shifts by the squarings, and none earlier by the prime factors of 2 ^ W − 1. -/
theorem noisePeriod : Obligations.NoisePeriod := by
  unfold Obligations.NoisePeriod
  intro w hw
  have hlt (n : Nat) (hn : n ≤ 2 ^ w - 1) : n < 2 ^ w := by have hpos := Nat.two_pow_pos w; omega
  have hreturn : (lfsrNext w)^[2 ^ w - 1] (lfsrMask w) = lfsrMask w := by
    rw [iterate_lfsrNext_eq_jump (hlt _ le_rfl)]
    exact jump_period w hw
  have hquot : ∀ p ∈ periodPrimes w, (lfsrNext w)^[(2 ^ w - 1) / p] (lfsrMask w) ≠ lfsrMask w := fun p hp => by
    rw [iterate_lfsrNext_eq_jump (hlt _ (Nat.div_le_self _ _))]
    exact jump_quotient w hw p hp
  rw [← periodPrimes_prod hw] at *
  exact ⟨hreturn, fun k h0 hk => no_earlier_return (periodPrimes_prime w) hreturn hquot h0 hk⟩

end Sys2Proof.Proofs
end

section
/-! PROOFS. The interrupt latch unit (45_interrupts.md): the line and the trace's interrupt events over every step (R801,
R804; O59, O60), and the latches over a transaction (R800; O16). -/

namespace Sys2Proof.Proofs

open Sys2Proof Sys2Proof.Machine

/-! ## The interrupt events of a trace (R801) -/

theorem lineAfter_append (up : Bool) (t u : List Event) :
    lineAfter up (t ++ u) = (lineAfter up t).bind fun b => lineAfter b u := by
  induction t generalizing up with
  | nil => rfl
  | cons e t ih =>
    cases e with
    | irqRequest =>
      cases up with
      | true => rfl
      | false => exact ih true
    | irqClear =>
      cases up with
      | true => exact ih false
      | false => rfl
    | scanline | vsync | sample => exact ih up

/-- The events say nothing of the interrupt line. -/
def LineSilent (l : List Event) : Prop := ∀ up, lineAfter up l = some up

theorem lineSilent_nil : LineSilent [] := fun _ => rfl

theorem lineSilent_openEvents (v : Vid) : LineSilent (openEvents v) := by
  unfold openEvents
  split
  · split <;> exact fun _ => rfl
  · exact lineSilent_nil

/-- IrqUpdate tells the move of the line from where it is to what the enabled latches ask for. -/
theorem lineAfter_irqEvents (i : Intr) : lineAfter i.irq (irqEvents i) = some i.wanted := by
  unfold irqEvents irqEvent
  cases i.irq <;> cases i.wanted <;> rfl

theorem lineAfter_replaceEvents (old new : Intr) : lineAfter old.irq (replaceEvents old new) = some new.irq := by
  unfold replaceEvents irqEvent
  cases old.irq <;> cases new.irq <;> rfl

/-- RESET tells the fall of a line that was up (70_reset_and_hazards.md R1000). -/
theorem lineAfter_resetEvents (up : Bool) : lineAfter up (if up then [.irqClear] else []) = some false := by
  cases up <;> rfl

/-! ## What the block's operations do to the line -/

/-- IrqInv speaks of the interrupt unit and the parameters alone. -/
theorem irqInv_of_intr_eq {s t : State} (hparams : t.params = s.params) (hintr : t.intr = s.intr) (h : IrqInv s) :
    IrqInv t where
  line := by rw [hintr]; exact h.line
  timer := by rw [hintr, hparams]; exact h.timer

/-- From s to t the trace tells each change of the line, and the line still follows the enabled latches. -/
structure LineFollows (s t : State) : Prop where
  told : ∃ l, t.trace = s.trace ++ l ∧ lineAfter s.intr.irq l = some t.intr.irq
  inv : IrqInv s → IrqInv t

theorem LineFollows.trans {s t u : State} (h : LineFollows s t) (k : LineFollows t u) : LineFollows s u := by
  obtain ⟨l, hl, hline⟩ := h.told
  obtain ⟨m, hm, hline'⟩ := k.told
  refine ⟨⟨l ++ m, by rw [hm, hl, List.append_assoc], ?_⟩, fun hs => k.inv (h.inv hs)⟩
  rw [lineAfter_append, hline]
  exact hline'

/-- What was told so far, and what is told from s to t, end with the line of t. -/
theorem LineFollows.traceInv {s t : State} (h : LineFollows s t) (hs : TraceInv s) : TraceInv t := by
  obtain ⟨l, hl, hline⟩ := h.told
  rw [TraceInv] at *
  rw [hl, lineAfter_append, hs]
  exact hline

theorem lineFollows_of_intr_eq {s t : State} (l : List Event) (hparams : t.params = s.params) (hintr : t.intr = s.intr)
    (htrace : t.trace = s.trace ++ l) (hsilent : LineSilent l) : LineFollows s t where
  told := ⟨l, htrace, by rw [hintr]; exact hsilent _⟩
  inv := irqInv_of_intr_eq hparams hintr

/-- No event, and the unit as it was. -/
theorem lineFollows_of_same {s t : State} (hparams : t.params = s.params) (hintr : t.intr = s.intr)
    (htrace : t.trace = s.trace) : LineFollows s t :=
  lineFollows_of_intr_eq [] hparams hintr (htrace.trans (List.append_nil _).symm) lineSilent_nil

/-- A change of the latches, enables or counts that IrqUpdate follows. -/
theorem lineFollows_irqUpdate {s : State} {i : Intr} (hirq : i.irq = s.intr.irq)
    (htimer : IrqInv s → i.timerCnt.toNat < s.params.timerHalf) : LineFollows s (irqUpdate (s.setIntr i)) := by
  rw [irqUpdate_eq]
  exact ⟨⟨irqEvents i, rfl, by rw [← hirq]; exact lineAfter_irqEvents i⟩, fun h => ⟨rfl, htimer h⟩⟩

/-- A replacement of the unit by one that is consistent with the parameters. -/
theorem lineFollows_replaceIntr {s : State} {i : Intr} (hinv : IrqInv s → IrqInv (s.setIntr i)) :
    LineFollows s (replaceIntr i s) := by
  rw [replaceIntr_eq]
  exact ⟨⟨_, rfl, lineAfter_replaceEvents s.intr i⟩, fun h => irqInv_of_intr_eq (s := s.setIntr i) rfl rfl (hinv h)⟩

theorem lineFollows_portWrite (off : BitVec 5) (v : Byte) (s : State) : LineFollows s (portWrite off v s) := by
  unfold portWrite
  split
  case isTrue => exact lineFollows_of_same rfl rfl rfl
  case isFalse =>
    split
    case h_1 => exact lineFollows_irqUpdate rfl IrqInv.timer
    case h_2 | h_3 | h_4 | h_5 | h_6 => exact lineFollows_of_same rfl rfl rfl

/-- A consistent interrupt record meets the invariant: R859 (c) and (d) are what it asks (46_snapshot.md). -/
theorem intFields_irqInv {d : List Byte} {s : State} (h : intBroken s.params s.clk d = none) :
    IrqInv (s.setIntr (intFields d)) := by
  have hchecks := (firstBroken_none_iff _).mp h
  simp only [List.forall_mem_cons, decide_eq_true_eq] at hchecks
  obtain ⟨-, -, hline, htimer, -⟩ := hchecks
  exact ⟨hline, htimer⟩

theorem lineFollows_writeRecord (u : Subsystem) {d : List Byte} {s : State} (hload : loadProblem u d s = none) :
    LineFollows s (writeRecord u d s) :=
  match u with
  | .video => lineFollows_of_same rfl rfl rfl
  | .sound => lineFollows_of_same rfl rfl rfl
  | .int => lineFollows_replaceIntr fun _ => intFields_irqInv (recordBroken_of_loadProblem hload)

/-- The reset unit meets the invariant where any does: it needs a timer half period of at least one tick. -/
theorem irqInv_of_reset {s t : State} (hparams : t.params = s.params) (hintr : t.intr = Intr.reset) (h : IrqInv s) :
    IrqInv t :=
  irqInv_of_intr_eq (s := State.powerOn s.params) hparams hintr (powerOn_irqInv (Nat.one_le_of_lt h.timer))

theorem lineFollows_resetSubsystem (u : Subsystem) (s : State) : LineFollows s (resetSubsystem u s) :=
  match u with
  | .video => lineFollows_of_same rfl rfl rfl
  | .sound => lineFollows_of_same rfl rfl rfl
  | .int => lineFollows_replaceIntr (irqInv_of_reset rfl rfl)

theorem lineFollows_resetBlock (s : State) : LineFollows s (resetBlock s) := by
  rw [resetBlock_eq]
  exact ⟨⟨_, rfl, lineAfter_resetEvents s.intr.irq⟩, irqInv_of_reset rfl rfl⟩

theorem lineFollows_collaborate (c : Collab) (s : State) : LineFollows s (collaborate c s) := by
  rcases collaborate_spec c s with ⟨_, _, -, hs⟩ | ⟨_, _, -, hs⟩ <;> rw [hs] <;> exact lineFollows_of_same rfl rfl rfl

theorem lineFollows_runRenderer (r : Renderer) (s : State) : LineFollows s (runRenderer r s).2 := by
  rw [runRenderer_writes r s]; exact lineFollows_of_same rfl rfl rfl

theorem lineFollows_of_units_eq {s t : State} (h : s.units = t.units) : LineFollows s t := by
  simp only [State.units, Prod.mk.injEq] at h
  obtain ⟨hparams, -, -, hintr, htrace, -⟩ := h
  exact lineFollows_of_same hparams.symm hintr.symm htrace.symm

/-! ## What the sources' levels do (R800)

The levels of the four sources move in a sound tick, in a video slot and by EXT2. A fall sets a latch, and no move clears
one. -/

/-- Every latch that is set in s is set in t. -/
def KeepsLatches (s t : State) : Prop := ∀ k : Fin 4, s.intr.latch[k] = true → t.intr.latch[k] = true

theorem keepsLatches_of_intr_eq {s t : State} (h : t.intr = s.intr) : KeepsLatches s t := by
  intro k hk
  rw [h]
  exact hk

/-- What moves of the sources' levels and of the dividers' counts do from s to t. -/
structure LevelsMoved (s t : State) : Prop extends LineFollows s t where
  latches : KeepsLatches s t

theorem LevelsMoved.trans {s t u : State} (h : LevelsMoved s t) (k : LevelsMoved t u) : LevelsMoved s u where
  toLineFollows := h.toLineFollows.trans k.toLineFollows
  latches j hj := k.latches j (h.latches j hj)

theorem levelsMoved_of_intr_eq {s t : State} (l : List Event) (hparams : t.params = s.params) (hintr : t.intr = s.intr)
    (htrace : t.trace = s.trace ++ l) (hsilent : LineSilent l) : LevelsMoved s t where
  toLineFollows := lineFollows_of_intr_eq l hparams hintr htrace hsilent
  latches := keepsLatches_of_intr_eq hintr

theorem levelsMoved_of_same {s t : State} (hparams : t.params = s.params) (hintr : t.intr = s.intr)
    (htrace : t.trace = s.trace) : LevelsMoved s t :=
  levelsMoved_of_intr_eq [] hparams hintr (htrace.trans (List.append_nil _).symm) lineSilent_nil

/-- A source's level and latch after IntSetLevel: a fall latches, and a latch once set stays. -/
theorem drive_eq (i : Intr) (k : Fin 4) (v : Bool) :
    i.drive k v =
      { i with level := i.level.set k v, latch := i.latch.set k ((i.level[k] && !v) || i.latch[k]) } := by
  unfold Intr.drive
  cases i.level[k] && !v with
  | true => rfl
  | false => simp

theorem drive_latch (i : Intr) (k j : Fin 4) (v : Bool) :
    (i.drive k v).latch[j] = if k = j then (i.level[k] && !v) || i.latch[k] else i.latch[j] := by
  rw [drive_eq]
  simp [Vector.getElem_set, Fin.ext_iff]

theorem drive_latch_of_set {i : Intr} {j : Fin 4} (k : Fin 4) (v : Bool) (h : i.latch[j] = true) :
    (i.drive k v).latch[j] = true := by
  rw [drive_latch]
  split
  case isTrue hk => rw [hk, h, Bool.or_true]
  case isFalse => exact h

/-- IntSetLevel, together with a change of the dividers' counts. -/
theorem levelsMoved_intSetLevel (k : Fin 4) (v : Bool) {s : State} {i : Intr} (hirq : i.irq = s.intr.irq)
    (hlatch : i.latch = s.intr.latch) (htimer : IrqInv s → i.timerCnt.toNat < s.params.timerHalf) :
    LevelsMoved s (intSetLevel k v (s.setIntr i)) where
  toLineFollows := lineFollows_irqUpdate (i := i.drive k v) hirq htimer
  latches j hj := by
    rw [intSetLevel_eq]
    exact drive_latch_of_set k v (by rw [State.setIntr_intr, hlatch]; exact hj)

theorem levelsMoved_timerTick (s : State) : LevelsMoved s (timerTick s) := by
  by_cases h : s.params.timerHalf ≤ (s.intr.timerCnt + 1).toNat
  · rw [timerTick_of_toggle h]
    exact levelsMoved_intSetLevel 0 _ rfl rfl fun hs => Nat.zero_lt_of_lt hs.timer
  · rw [timerTick_of_count h]
    exact ⟨⟨⟨[], (List.append_nil _).symm, rfl⟩, fun hs => ⟨hs.line, Nat.lt_of_not_le h⟩⟩, fun _ hk => hk⟩

theorem levelsMoved_onehzTick (s : State) : LevelsMoved s (onehzTick s) := by
  by_cases h : s.clk.onehzHalf.toNat ≤ (s.intr.onehzCnt + 1).toNat
  · rw [onehzTick_of_toggle h]
    exact levelsMoved_intSetLevel 1 _ rfl rfl IrqInv.timer
  · rw [onehzTick_of_count h]
    exact ⟨⟨⟨[], (List.append_nil _).symm, rfl⟩, fun hs => ⟨hs.line, hs.timer⟩⟩, fun _ hk => hk⟩

theorem levelsMoved_soundTick (s : State) : LevelsMoved s (soundTick s) := by
  have hsound : LevelsMoved s (s.setSnd s.snd.tick) := levelsMoved_of_same rfl rfl rfl
  have hdividers := (levelsMoved_timerTick (s.setSnd s.snd.tick)).trans (levelsMoved_onehzTick _)
  exact (hsound.trans hdividers).trans (levelsMoved_of_intr_eq [_] rfl rfl rfl fun _ => rfl)

theorem levelsMoved_ext2 (level : Bool) (s : State) : LevelsMoved s (ext2 level s) :=
  levelsMoved_intSetLevel 3 level rfl rfl IrqInv.timer

/-! A video slot moves external line 1 at the end of a line (R806), and says nothing else of the unit. -/

theorem levelsMoved_slotFetch (s : State) : LevelsMoved s (slotFetch s) := by
  unfold slotFetch
  split
  · split
    · rw [lpbFetch_eq]; exact levelsMoved_of_same rfl rfl rfl
    · exact levelsMoved_of_same rfl rfl rfl
  · rw [margins_eq]; exact levelsMoved_of_intr_eq _ rfl rfl rfl (lineSilent_openEvents s.vid)

theorem levelsMoved_slotWork (s : State) : LevelsMoved s (slotWork s) := by
  have hstart : LevelsMoved s (lineStart s) := by rw [lineStart_eq]; exact levelsMoved_of_same rfl rfl rfl
  have hgroup (t : State) : LevelsMoved t (slotGroup t) := by rw [slotGroup_eq]; exact levelsMoved_of_same rfl rfl rfl
  exact (hstart.trans (levelsMoved_slotFetch _)).trans (hgroup _)

/-- The Scanline, external line 1, and the move to the next line (42_video_engine.md R535). -/
theorem levelsMoved_endOfLine (s : State) : LevelsMoved s (endOfLine s) := by
  have hflush : LevelsMoved s (flushLine s) := levelsMoved_of_intr_eq [_] rfl rfl rfl fun _ => rfl
  have hdrive : LevelsMoved (flushLine s) (intSetLevel 2 s.vid.vint (flushLine s)) :=
    levelsMoved_intSetLevel 2 _ rfl rfl IrqInv.timer
  exact (hflush.trans hdrive).trans (levelsMoved_of_same rfl rfl rfl)

theorem levelsMoved_nextSlot (s : State) : LevelsMoved s (nextSlot s) := by
  by_cases h : s.vid.slot.toNat + 1 = s.params.nslot
  · rw [nextSlot_of_last h]
    exact (levelsMoved_endOfLine s).trans (levelsMoved_of_same rfl rfl rfl)
  · rw [nextSlot_of_more h]; exact levelsMoved_of_same rfl rfl rfl

theorem levelsMoved_videoSlot (s : State) : LevelsMoved s (videoSlot s) := by
  have hsetup (t : State) : LevelsMoved t (lineSetup t) := levelsMoved_of_same rfl rfl rfl
  refine (levelsMoved_slotWork s).trans ?_
  by_cases hseven : (slotWork s).vid.slot = 7
  · rw [videoSlot_eq_slotEnd, slotEnd_of_seven hseven]
    exact (hsetup _).trans (levelsMoved_nextSlot _)
  · rw [videoSlot_eq_slotEnd, slotEnd_of_ne_seven hseven]
    exact levelsMoved_nextSlot _

/-! ## Every step -/

/-- Each of a step's ten operations makes the line follow, so a step keeps what that keeps. -/
theorem stepClosed_of_lineFollows {P : State → Prop} (h : ∀ s t, LineFollows s t → P s → P t) : StepClosed P where
  frame s t hunits := h s t (lineFollows_of_units_eq hunits)
  videoSlot s := h s _ (levelsMoved_videoSlot s).toLineFollows
  soundTick s := h s _ (levelsMoved_soundTick s).toLineFollows
  portWrite off v s := h s _ (lineFollows_portWrite off v s)
  ext2 level s := h s _ (levelsMoved_ext2 level s).toLineFollows
  load u _ s hload := h s _ (lineFollows_writeRecord u hload)
  resetSub u s := h s _ (lineFollows_resetSubsystem u s)
  reset s := h s _ (lineFollows_resetBlock s)
  collab c s := h s _ (lineFollows_collaborate c s)
  render r s := h s _ (lineFollows_runRenderer r s)

/-- Settles O59, by the induction over what a step can do. That a half period is at least one tick is part of the
invariant's own bound on the timer count, so the parameters' legality is not needed. -/
theorem stepKeepsIrq : Obligations.StepKeepsIrq := by
  unfold Obligations.StepKeepsIrq
  exact fun s _ => (stepClosed_of_lineFollows fun _ _ => LineFollows.inv).of_step s

/-- Settles O60, by the same induction: what a step appends to the trace starts from the line before it. -/
theorem stepKeepsTrace : Obligations.StepKeepsTrace := by
  unfold Obligations.StepKeepsTrace
  exact (stepClosed_of_lineFollows fun _ _ => LineFollows.traceInv).of_step

/-! ## The latches over a transaction (R800): what leaves the unit as it is -/

theorem complete_intr (s : State) : (complete s).intr = s.intr := by
  rcases complete_spec s with h | h <;> rw [h]
  rfl

theorem ensureInstr_intr (s : State) : (ensureInstr s).intr = s.intr := by
  rcases ensureInstr_spec s with ⟨-, h⟩ | ⟨-, h⟩ <;> rw [h]
  rfl

theorem charge_intr (n : Byte) {s : State} (hf : s.clk.faulted = false) : (charge n s).intr = s.intr := by
  rcases charge_spec n s hf with ⟨-, h⟩ | ⟨-, h⟩ <;> rw [h] <;> rfl

theorem performIo_read_intr (port data : Byte) (s : State) : (performIo ⟨false, port, data⟩ s).intr = s.intr := by
  by_cases h : InWindow s.params port
  · rw [performIo_read_inside h]
  · rw [performIo_read_outside h]

theorem cpuIo_read_intr (port data : Byte) {s : State} (hf : s.clk.faulted = false) :
    (cpuIo ⟨false, port, data⟩ s).intr = s.intr := by
  rcases cpuIo_spec ⟨false, port, data⟩ s hf with h | ⟨t, ht, -, -, h⟩ | ⟨t, ht, -, -, h⟩ <;> rw [h]
  · rfl
  · rw [State.setClk_intr, ← ht, charge_intr _ hf]
  · rw [performIo_read_intr, ← ht, charge_intr _ hf]

theorem configure_intr (m : Byte) (fCpu fSlot fSnd : Word32) (nwait : Byte) (s : State) :
    (Machine.configure m fCpu fSlot fSnd nwait s).intr = s.intr := by
  unfold Machine.configure
  split
  · rfl
  · exact complete_intr _

/-- A load of another unit's record leaves the interrupt unit, whether it succeeds or resets that unit. -/
theorem snapshotLoad_intr {u : Subsystem} {d : List Byte} {s : State} (hwrite : (writeRecord u d s).intr = s.intr)
    (hreset : (resetSubsystem u s).intr = s.intr) : (snapshotLoad u d s).intr = s.intr := by
  rcases snapshotLoad_spec u d s with ⟨c, -, h⟩ | ⟨-, h⟩ <;> rw [h]
  · exact hreset
  · rw [complete_intr, hwrite]

/-! ## The latches over a transaction: its kinds

A refusal leaves the unit as it is, so only the effect of a transaction that is accepted matters. -/

section Kinds

variable {f : State → State} {s : State}

theorem next_accept_keepsLatches (h : s.clk.faulted = false → KeepsLatches s (f s)) :
    Next (accept f s) (KeepsLatches s) := by
  cases hf : s.clk.faulted with
  | true => rw [accept_of_faulted f hf]; exact keepsLatches_of_intr_eq rfl
  | false => rw [accept_of_running f hf]; exact h hf

theorem next_acceptConfigured_keepsLatches (h : s.clk.faulted = false → KeepsLatches s (f s)) :
    Next (acceptConfigured f s) (KeepsLatches s) := by
  refine next_accept_keepsLatches fun hf => ?_
  split
  · exact h hf
  · exact keepsLatches_of_intr_eq rfl

theorem next_perform_keepsLatches (h : KeepsLatches s (f s)) : Next (perform f s) (KeepsLatches s) :=
  next_accept_keepsLatches fun _ k hk => by rw [complete_intr]; exact h k hk

/-- A transaction that answers the host and does nothing else. -/
theorem next_answer_keepsLatches (r : State → Reply) :
    Next (accept (fun s => s.setReply (r s)) s) (KeepsLatches s) :=
  next_accept_keepsLatches fun _ => keepsLatches_of_intr_eq rfl

theorem next_answerByte_keepsLatches (b : State → Byte) : Next (answerByte b s) (KeepsLatches s) :=
  next_answer_keepsLatches fun s => .byte (b s)

theorem next_waitQuery_keepsLatches (k : AccessKind) (a : Half) : Next (Machine.waitQuery k a s) (KeepsLatches s) :=
  next_acceptConfigured_keepsLatches (f := fun s => s.setReply (.byte (waitCycles s k a))) fun _ =>
    keepsLatches_of_intr_eq rfl

/-- An event the host issues, after the start of its instruction. -/
theorem next_hostEvent_keepsLatches (h : ∀ t, t.clk.faulted = false → (f t).intr = t.intr) :
    Next (acceptConfigured (fun s => complete (f (ensureInstr s))) s) (KeepsLatches s) := by
  refine next_acceptConfigured_keepsLatches fun hf => keepsLatches_of_intr_eq ?_
  rw [complete_intr, h _ ((ensureInstr_faulted s).trans hf), ensureInstr_intr]

theorem next_cpuEnd_keepsLatches : Next (execCpuEnd s) (KeepsLatches s) := by
  refine next_acceptConfigured_keepsLatches fun _ => keepsLatches_of_intr_eq ?_
  split
  · rfl
  · rw [complete_intr]; exact ensureInstr_intr s

end Kinds

theorem next_renderer_keepsLatches (r : Renderer) (s : State) : Next (exec r.instr s) (KeepsLatches s) := by
  rw [exec_renderer]
  exact keepsLatches_of_intr_eq (by rw [runRenderer_writes r s]; rfl)

/-- A transaction that is no renderer, and can neither acknowledge an interrupt nor replace the unit, by its kind: the moves
of the levels; the CPU events; CONFIGURE and the loads; the register writes; the reads, saves and queries. -/
theorem next_packet_keepsLatches {i : Instr} {p : Packet} (s : State) (hpacket : encode i = .packet p)
    (hctrl : ∀ v, i ≠ .pwIntCtrl v) (hio : ∀ p d, i ≠ .cpuIoWrite p d) (hslot : i ≠ .slotStep)
    (hload : ∀ d, i ≠ .snapshotLoadInt d) (hreset : i ≠ .reset) : Next (exec i s) (KeepsLatches s) := by
  cases i
  case pwIntCtrl v => exact absurd rfl (hctrl v)
  case cpuIoWrite p d => exact absurd rfl (hio p d)
  case slotStep => exact absurd rfl hslot
  case snapshotLoadInt d => exact absurd rfl (hload d)
  case reset => exact absurd rfl hreset
  case soundTick => exact next_perform_keepsLatches (levelsMoved_soundTick s).latches
  case videoSlot => exact next_perform_keepsLatches (levelsMoved_videoSlot s).latches
  case ext2 level => exact next_perform_keepsLatches (levelsMoved_ext2 level s).latches
  case cpuCycles | cpuMemFetch | cpuMemRead | cpuMemWrite => exact next_hostEvent_keepsLatches fun _ => charge_intr _
  case cpuIoRead port => exact next_hostEvent_keepsLatches fun _ => cpuIo_read_intr port 0
  case cpuEnd => exact next_cpuEnd_keepsLatches
  case configure =>
    exact next_accept_keepsLatches fun _ => keepsLatches_of_intr_eq (configure_intr _ _ _ _ _ s)
  case snapshotLoadVideo d =>
    exact next_accept_keepsLatches fun _ => keepsLatches_of_intr_eq (snapshotLoad_intr (u := .video) rfl rfl)
  case snapshotLoadSound d =>
    exact next_accept_keepsLatches fun _ => keepsLatches_of_intr_eq (snapshotLoad_intr (u := .sound) rfl rfl)
  case pwSndR0 | pwSndR1 | pwSndR2 | pwSndR3 | pwSndR4 | pwSndR5 | pwSndR6 | pwSndR7 | pwSndR8 | pwSndR9 | pwSndR10 |
    pwSndR11 | pwSndR12 | pwSndR13 | pwSndR14 | pwSndR15 | pwFixbias | pwBorder | pwLptLo | pwLptHi | pwReserved11 |
    pwReserved12 | pwReserved13 | pwReserved14 | pwReserved15 | pwReserved16 | pwReserved17 | pwReserved1C |
    pwReserved1D | pwReserved1E | pwReserved1F => exact next_perform_keepsLatches (keepsLatches_of_intr_eq rfl)
  case prSndR0 | prSndR1 | prSndR2 | prSndR3 | prSndR4 | prSndR5 | prSndR6 | prSndR7 | prSndR8 | prSndR9 |
    prSndR10 | prSndR11 | prSndR12 | prSndR13 | prSndR14 | prSndR15 | prIntStatus | prReserved11 | prReserved12 |
    prReserved13 | prReserved14 | prReserved15 | prReserved16 | prReserved17 | prReserved1C | prReserved1D |
    prReserved1E | prReserved1F => exact next_answerByte_keepsLatches _
  case prFixbias => exact next_answerByte_keepsLatches fun s => s.vid.fixbias
  case prBorder => exact next_answerByte_keepsLatches fun s => s.vid.border
  case prLptLo => exact next_answerByte_keepsLatches fun s => s.vid.lptLo
  case prLptHi => exact next_answerByte_keepsLatches fun s => s.vid.lptHi
  case snapshotSaveVideo => exact next_answer_keepsLatches fun s => .record (videoRecord s.vid)
  case snapshotSaveSound => exact next_answer_keepsLatches fun s => .record (soundRecord s.snd)
  case snapshotSaveInt => exact next_answer_keepsLatches fun s => .record (intRecord s.intr)
  case waitQueryFetch | waitQueryRead | waitQueryWrite | waitQueryIo => exact next_waitQuery_keepsLatches _ _
  all_goals cases hpacket

/-- Settles O16: the transactions left are the renderers and those that clear no latch. -/
theorem latchPersists : Obligations.LatchPersists := by
  unfold Obligations.LatchPersists
  intro i s t k hexec hset hctrl hio hslot hload hreset
  have hkeeps : Next (exec i s) (KeepsLatches s) := by
    cases hcode : encode i with
    | packet p => exact next_packet_keepsLatches s hcode hctrl hio hslot hload hreset
    | key x =>
      obtain ⟨r, rfl⟩ := eq_renderer_of_encode_key hcode
      exact next_renderer_keepsLatches r s
  rw [hexec] at hkeeps
  exact hkeeps k hset

end Sys2Proof.Proofs
end

section
/-! PROOFS. Statements of 45_interrupts.md on the unit's own transactions (R805, R810, R811; O14, O15), and on the two
dividers over many ticks (R803, R804; O39). -/

namespace Sys2Proof.Proofs

open Sys2Proof Sys2Proof.Machine

/-! ## INT_CTRL, INT_STATUS and EXT2 (R805, R810, R811) -/

/-- A change of the interrupt unit that IrqUpdate follows, as a transaction in a running block. -/
theorem perform_irqUpdate {f : State → State} {s : State} {i : Intr} (hf : s.clk.faulted = false)
    (h : f s = irqUpdate (s.setIntr i)) (hirq : i.irq = s.intr.irq) :
    perform f s = .next { s with
      intr := { i with irq := i.wanted }, trace := s.trace ++ lineEvents s.intr.irq i.wanted, reply := .completed } := by
  rw [perform_of_running f hf, h, irqUpdate_eq, State.setIntr_intr, irqEvents_eq_lineEvents, hirq]
  exact congrArg _ (complete_of_running hf)

/-- The level and latch of each source, in the byte that INT_STATUS answers (30_encoding.md R323). -/
theorem status_getLsbD (i : Intr) (k : Fin 4) :
    i.status.getLsbD (2 * k.val) = i.level[k] ∧ i.status.getLsbD (2 * k.val + 1) = i.latch[k] := by
  simp only [Intr.status, BitVec.getLsbD_append, BitVec.getLsbD_ofBool]
  fin_cases k <;> exact ⟨by simp, by simp⟩

/-- Settles O14: INT_CTRL is one change of the unit that IrqUpdate follows, and INT_STATUS answers a byte. -/
theorem interruptPorts : Obligations.InterruptPorts := by
  unfold Obligations.InterruptPorts
  exact fun s hf => ⟨fun v => perform_irqUpdate (f := intCtrl v) (i := s.intr.control v) hf rfl rfl,
    s.intr.status, answerByte_of_running intStatus hf, status_getLsbD s.intr⟩

/-- Settles O15: EXT2 is IntSetLevel of source 3. -/
theorem ext2Level : Obligations.Ext2Level := by
  unfold Obligations.Ext2Level
  intro s v hf l3 on
  have hon : (s.intr.drive 3 v).wanted = on := by
    rw [drive_eq]
    simp [Intr.wanted, on, l3]
  have hexec := perform_irqUpdate (f := ext2 v) (i := s.intr.drive 3 v) hf rfl rfl
  rw [hon, drive_eq] at hexec
  exact hexec

/-! ## A divider over one tick (R803, R804) -/

/-- A divider: its count, and the level and latch of the source it toggles. -/
structure Divider where
  cnt : BitVec 32
  level : Bool
  latch : Bool

/-- One tick of a divider: at the half period the count starts again and the level toggles, and a fall latches. -/
def Divider.tick (half : Nat) (d : Divider) : Divider :=
  if half ≤ (d.cnt + 1).toNat then ⟨0, !d.level, d.level || d.latch⟩ else { d with cnt := d.cnt + 1 }

theorem Divider.tick_of_toggle {half : Nat} {d : Divider} (h : half ≤ (d.cnt + 1).toNat) :
    d.tick half = ⟨0, !d.level, d.level || d.latch⟩ := if_pos h

theorem Divider.tick_of_count {half : Nat} {d : Divider} (h : ¬half ≤ (d.cnt + 1).toNat) :
    d.tick half = { d with cnt := d.cnt + 1 } := if_neg h

/-- The periodic timer, which toggles source 0. -/
def timerOf (i : Intr) : Divider := ⟨i.timerCnt, i.level[0], i.latch[0]⟩

/-- The 1 Hz clock, which toggles source 1. -/
def onehzOf (i : Intr) : Divider := ⟨i.onehzCnt, i.level[1], i.latch[1]⟩

theorem timerOf_drive_zero (i : Intr) :
    timerOf (i.drive 0 (!i.level[0])) = ⟨i.timerCnt, !i.level[0], i.level[0] || i.latch[0]⟩ := by
  rw [drive_eq]; simp [timerOf]

theorem timerOf_drive_one (i : Intr) (v : Bool) : timerOf (i.drive 1 v) = timerOf i := by
  rw [drive_eq]; simp [timerOf]

theorem onehzOf_drive_zero (i : Intr) (v : Bool) : onehzOf (i.drive 0 v) = onehzOf i := by
  rw [drive_eq]; simp [onehzOf]

theorem onehzOf_drive_one (i : Intr) :
    onehzOf (i.drive 1 (!i.level[1])) = ⟨i.onehzCnt, !i.level[1], i.level[1] || i.latch[1]⟩ := by
  rw [drive_eq]; simp [onehzOf]

theorem timerOf_timerTick (s : State) : timerOf (timerTick s).intr = (timerOf s.intr).tick s.params.timerHalf := by
  by_cases h : s.params.timerHalf ≤ (s.intr.timerCnt + 1).toNat
  · rw [timerTick_of_toggle h, intSetLevel_eq, Divider.tick_of_toggle h]
    exact timerOf_drive_zero { s.intr with timerCnt := 0 }
  · rw [timerTick_of_count h, Divider.tick_of_count h]; rfl

theorem timerOf_onehzTick (s : State) : timerOf (onehzTick s).intr = timerOf s.intr := by
  by_cases h : s.clk.onehzHalf.toNat ≤ (s.intr.onehzCnt + 1).toNat
  · rw [onehzTick_of_toggle h, intSetLevel_eq]
    exact timerOf_drive_one { s.intr with onehzCnt := 0 } _
  · rw [onehzTick_of_count h]; rfl

theorem onehzOf_timerTick (s : State) : onehzOf (timerTick s).intr = onehzOf s.intr := by
  by_cases h : s.params.timerHalf ≤ (s.intr.timerCnt + 1).toNat
  · rw [timerTick_of_toggle h, intSetLevel_eq]
    exact onehzOf_drive_zero { s.intr with timerCnt := 0 } _
  · rw [timerTick_of_count h]; rfl

theorem onehzOf_onehzTick (s : State) : onehzOf (onehzTick s).intr = (onehzOf s.intr).tick s.clk.onehzHalf.toNat := by
  by_cases h : s.clk.onehzHalf.toNat ≤ (s.intr.onehzCnt + 1).toNat
  · rw [onehzTick_of_toggle h, intSetLevel_eq, Divider.tick_of_toggle h]
    exact onehzOf_drive_one { s.intr with onehzCnt := 0 }
  · rw [onehzTick_of_count h, Divider.tick_of_count h]; rfl

theorem timerOf_soundTick (s : State) : timerOf (soundTick s).intr = (timerOf s.intr).tick s.params.timerHalf := by
  rw [soundTick_eq]
  exact (timerOf_onehzTick _).trans (timerOf_timerTick _)

theorem onehzOf_soundTick (s : State) : onehzOf (soundTick s).intr = (onehzOf s.intr).tick s.clk.onehzHalf.toNat := by
  have hclk : (timerTick (s.setSnd s.snd.tick)).clk = s.clk := by rw [timerTick_frame]; rfl
  rw [soundTick_eq, ← hclk]
  exact (onehzOf_onehzTick _).trans (congrArg _ (onehzOf_timerTick _))

/-! ## A divider over many ticks -/

/-- A fresh divider after n ticks: where it is in its half period, which half period it is in, and its latch once the
level has fallen. -/
structure Divider.After (half n : Nat) (d : Divider) : Prop where
  cnt : d.cnt.toNat = n % half
  level : d.level = decide (n / half % 2 = 0)
  latch : half ≤ n → d.latch = true

theorem Divider.after_zero {half : Nat} {d : Divider} (hhalf : 1 ≤ half) (hcnt : d.cnt = 0) (hlevel : d.level = true) :
    d.After half 0 where
  cnt := by rw [hcnt, Nat.zero_mod]; rfl
  level := by rw [hlevel, Nat.zero_div]; rfl
  latch h := absurd hhalf (by omega)

/-- One more tick. Where the first half period ends, the level was up and falls; where a later one ends, the latch was
set before. -/
theorem Divider.After.tick {half n : Nat} {d : Divider} (h : d.After half n) (hhalf : 1 ≤ half)
    (hfits : half < 4294967296) : (d.tick half).After half (n + 1) := by
  have hdiv := Nat.div_add_mod n half
  have hmod := Nat.mod_lt n hhalf
  have hcount : (d.cnt + 1).toNat = n % half + 1 := by
    rw [← h.cnt]
    exact BitVec.toNat_add_of_lt (by rw [h.cnt]; exact Nat.lt_of_le_of_lt hmod hfits)
  by_cases hend : n % half + 1 = half
  · have hnext : (n + 1) / half = n / half + 1 ∧ (n + 1) % half = 0 :=
      (Nat.div_mod_unique hhalf).mpr ⟨by rw [Nat.mul_succ]; omega, hhalf⟩
    rw [Divider.tick_of_toggle (by omega)]
    refine ⟨hnext.2.symm, ?level, fun _ => ?latch⟩
    case level => rw [h.level, hnext.1, ← decide_not]; exact decide_eq_decide.mpr (by omega)
    case latch =>
      by_cases hfirst : half ≤ n
      · exact (congrArg _ (h.latch hfirst)).trans (Bool.or_true _)
      · have hup : d.level = true := by rw [h.level, Nat.div_eq_of_lt (Nat.lt_of_not_le hfirst)]; rfl
        exact (congrArg (· || d.latch) hup).trans (Bool.true_or _)
  · have hnext : (n + 1) / half = n / half ∧ (n + 1) % half = n % half + 1 :=
      (Nat.div_mod_unique hhalf).mpr ⟨by omega, by omega⟩
    rw [Divider.tick_of_count (by omega)]
    refine ⟨hcount.trans hnext.2.symm, by rw [hnext.1]; exact h.level, fun hle => h.latch ?_⟩
    by_contra hlt
    have hsmall := Nat.mod_eq_of_lt (Nat.lt_of_not_le hlt)
    omega

/-- A part g of the unit that each tick moves as a divider does is that divider after n ticks. -/
theorem after_iterate_soundTick {g : Intr → Divider} {half : State → Nat}
    (htick : ∀ t, g (soundTick t).intr = (g t.intr).tick (half t)) (hhalf : ∀ t, half (soundTick t) = half t)
    {s : State} (hpos : 1 ≤ half s) (hfits : half s < 4294967296) (hfresh : (g s.intr).After (half s) 0) (n : Nat) :
    (g (soundTick^[n] s).intr).After (half s) n := by
  have hconst (m : Nat) : half (soundTick^[m] s) = half s := by
    induction m with
    | zero => rfl
    | succ m ih => rw [Function.iterate_succ_apply', hhalf, ih]
  induction n with
  | zero => exact hfresh
  | succ n ih =>
    rw [Function.iterate_succ_apply', htick, hconst]
    exact ih.tick hpos hfits

/-- Settles O39: each divider's part of the unit is a divider, with its own half period, which a tick keeps. -/
theorem dividerPeriods : Obligations.DividerPeriods := by
  unfold Obligations.DividerPeriods
  refine ⟨fun s n hpos hfits hcnt hlevel => ?timer, fun s n hpos hcnt hlevel => ?onehz, fun s hpast hfits => ?past⟩
  case timer =>
    have hafter := after_iterate_soundTick (g := timerOf) (half := fun t => t.params.timerHalf) timerOf_soundTick
      (fun t => by rw [soundTick_eq]) hpos hfits (Divider.after_zero hpos hcnt hlevel) n
    exact ⟨hafter.cnt, hafter.level, hafter.latch⟩
  case onehz =>
    have hafter := after_iterate_soundTick (g := onehzOf) (half := fun t => t.clk.onehzHalf.toNat) onehzOf_soundTick
      (fun t => by rw [soundTick_clk]) hpos s.clk.onehzHalf.isLt (Divider.after_zero hpos hcnt hlevel) n
    exact ⟨hafter.cnt, hafter.level, hafter.latch⟩
  case past =>
    have hcount : (s.intr.onehzCnt + 1).toNat = s.intr.onehzCnt.toNat + 1 := BitVec.toNat_add_of_lt hfits
    have htoggle : onehzOf (soundTick s).intr =
        ⟨0, !s.intr.level[1], s.intr.level[1] || s.intr.latch[1]⟩ := by
      rw [onehzOf_soundTick]
      exact Divider.tick_of_toggle (d := onehzOf s.intr) (hcount ▸ Nat.le_succ_of_le hpast)
    exact ⟨congrArg Divider.cnt htoggle, congrArg Divider.level htoggle⟩

end Sys2Proof.Proofs
end

section
/-! PROOFS. The snapshot records (46_snapshot.md): each field of a saved unit at its offset (R851 to R855, R860;
O50). -/

namespace Sys2Proof.Proofs

open Sys2Proof Sys2Proof.Machine

/-! ## Fields of a byte list (R852) -/

/-- Behind a part of n bytes, a byte is read from the rest. -/
theorem byteAt_append_add {l m : List Byte} {n : Nat} (h : l.length = n) (i : Nat) :
    byteAt (l ++ m) (n + i) = byteAt m i := by
  rw [byteAt, List.getD_append_right _ _ _ _ (by omega), h, Nat.add_sub_cancel_left]; rfl

/-- The part of a list between two others. -/
theorem take_drop_append {l m r : List Byte} {i n : Nat} (hl : l.length = i) (hm : m.length = n) :
    ((l ++ m ++ r).drop i).take n = m := by
  rw [List.append_assoc, List.drop_left' hl, List.take_left' hm]

/-- A value is its high part before its low part. -/
theorem extractLsb'_high_append_low {v w : Nat} (x : BitVec (v + w)) :
    x.extractLsb' w v ++ x.extractLsb' 0 w = x := by
  refine BitVec.eq_of_getLsbD_eq fun i hi => ?_
  rw [BitVec.getLsbD_append, BitVec.getLsbD_extractLsb', BitVec.getLsbD_extractLsb', Nat.zero_add]
  by_cases hlow : i < w
  · simp [hlow]
  · rw [if_neg hlow, Nat.add_sub_cancel' (Nat.le_of_not_lt hlow), decide_eq_true (by omega), Bool.true_and]

/-- A field of a record of an n-bit number, in more bits than it has. -/
theorem toNat_of_eq_setWidth {m n : Nat} {x : BitVec m} {y : BitVec n} (h : x = y.setWidth m) (hmn : n ≤ m) :
    x.toNat = y.toNat := by
  rw [h, BitVec.toNat_setWidth_of_le hmn]

/-- A field of a record of a number that fits it. -/
theorem toNat_of_eq_ofNat {m k : Nat} {x : BitVec m} (h : x = BitVec.ofNat m k) (hk : k < 2 ^ m) : x.toNat = k := by
  rw [h, BitVec.toNat_ofNat, Nat.mod_eq_of_lt hk]

/-- A field holds a value where its bytes are the value's, the most significant first. -/
theorem field16_of_bytes {d : List Byte} {i : Nat} {x : BitVec 16} (h0 : byteAt d i = x.extractLsb' 8 8)
    (h1 : byteAt d (i + 1) = x.extractLsb' 0 8) : field16 d i = x := by
  rw [field16, h0, h1]
  exact extractLsb'_high_append_low (v := 8) (w := 8) x

theorem field24_of_bytes {d : List Byte} {i : Nat} {x : BitVec 24} (h0 : byteAt d i = x.extractLsb' 16 8)
    (h1 : byteAt d (i + 1) = x.extractLsb' 8 8) (h2 : byteAt d (i + 2) = x.extractLsb' 0 8) : field24 d i = x := by
  have hlow : x.extractLsb' 8 8 ++ x.extractLsb' 0 8 = x.extractLsb' 0 16 :=
    BitVec.extractLsb'_append_extractLsb'_eq_extractLsb' rfl
  rw [field24, h0, h1, h2, hlow]
  exact extractLsb'_high_append_low (v := 8) (w := 16) x

theorem field32_of_bytes {d : List Byte} {i : Nat} {x : BitVec 32} (h0 : byteAt d i = x.extractLsb' 24 8)
    (h1 : byteAt d (i + 1) = x.extractLsb' 16 8) (h2 : byteAt d (i + 2) = x.extractLsb' 8 8)
    (h3 : byteAt d (i + 3) = x.extractLsb' 0 8) : field32 d i = x := by
  have hhigh : x.extractLsb' 24 8 ++ x.extractLsb' 16 8 = x.extractLsb' 16 16 :=
    BitVec.extractLsb'_append_extractLsb'_eq_extractLsb' rfl
  have hlow : x.extractLsb' 8 8 ++ x.extractLsb' 0 8 = x.extractLsb' 0 16 :=
    BitVec.extractLsb'_append_extractLsb'_eq_extractLsb' rfl
  rw [field32, field16, field16, h0, h1, h2, h3, hhigh, hlow]
  exact extractLsb'_high_append_low (v := 16) (w := 16) x

theorem versionTag_length : versionTag.length = 4 := rfl

theorem tagBlock_length (x : Vector Byte 16) : (versionTag ++ x.toList).length = 20 := by
  rw [List.length_append, versionTag_length, Vector.length_toList]

/-! ## The video record (R853) -/

/-- A video record's bytes from offset 36 on, behind the tag and the two parameter blocks. -/
def videoTail (v : Vid) : List Byte :=
  v.lptLo :: v.lptHi :: (bytes16 v.lptCur ++ (bytes16 v.line ++ (v.slot.setWidth 8 :: byteOfBool v.needLpb ::
  (bytes16 (BitVec.ofNat 16 v.linesLeft) ++ (bytes16 v.ld1 ++ (bytes16 v.ld2 ++
  (byteOfBool v.displayEn :: byteOfBool v.vsync :: v.border :: v.fixbias :: v.busLast ::
  (bytes16 (BitVec.ofNat 16 v.lineBuf.length) ++ v.lineBuf))))))))

theorem videoRecord_eq (v : Vid) :
    videoRecord v = versionTag ++ v.lpb.toList ++ v.lpbBuf.toList ++ videoTail v := by
  simp only [videoRecord, videoTail, List.append_assoc, List.cons_append, List.nil_append]

theorem videoHead_length (v : Vid) : (versionTag ++ v.lpb.toList ++ v.lpbBuf.toList).length = 36 := by
  rw [List.length_append, tagBlock_length, Vector.length_toList]

theorem videoTail_length (v : Vid) : (videoTail v).length = v.lineBuf.length + 21 := rfl

theorem byteAt_videoRecord (v : Vid) (i : Nat) : byteAt (videoRecord v) (36 + i) = byteAt (videoTail v) i := by
  rw [videoRecord_eq, byteAt_append_add (videoHead_length v)]

/-- Each field of v stands in d at its offset of R853. -/
structure VideoLayout (v : Vid) (d : List Byte) : Prop where
  length : d.length = 57 + v.lineBuf.length
  tag : d.take 4 = versionTag
  lpb : (d.drop 4).take 16 = v.lpb.toList
  lpbBuf : (d.drop 20).take 16 = v.lpbBuf.toList
  lptLo : byteAt d 36 = v.lptLo
  lptHi : byteAt d 37 = v.lptHi
  lptCur : field16 d 38 = v.lptCur
  line : field16 d 40 = v.line
  slot : (byteAt d 42).toNat = v.slot.toNat
  needLpb : byteAt d 43 = byteOfBool v.needLpb
  linesLeft : (field16 d 44).toNat = v.linesLeft
  ld1 : field16 d 46 = v.ld1
  ld2 : field16 d 48 = v.ld2
  displayEn : byteAt d 50 = byteOfBool v.displayEn
  vsync : byteAt d 51 = byteOfBool v.vsync
  border : byteAt d 52 = v.border
  fixbias : byteAt d 53 = v.fixbias
  busLast : byteAt d 54 = v.busLast
  lineLength : (field16 d 55).toNat = v.lineBuf.length
  lineBuf : d.drop 57 = v.lineBuf

theorem videoRecord_layout {v : Vid} (hbuf : v.lineBuf.length < 2 ^ 16) (hlines : v.linesLeft < 2 ^ 16) :
    VideoLayout v (videoRecord v) where
  length := by rw [videoRecord_eq, List.length_append, videoHead_length, videoTail_length]; omega
  tag := rfl
  lpb := by
    rw [videoRecord_eq, List.append_assoc _ v.lpbBuf.toList, take_drop_append versionTag_length Vector.length_toList]
  lpbBuf := by rw [videoRecord_eq, take_drop_append (tagBlock_length v.lpb) Vector.length_toList]
  lptLo := byteAt_videoRecord v 0
  lptHi := byteAt_videoRecord v 1
  lptCur := field16_of_bytes (byteAt_videoRecord v 2) (byteAt_videoRecord v 3)
  line := field16_of_bytes (byteAt_videoRecord v 4) (byteAt_videoRecord v 5)
  slot := toNat_of_eq_setWidth (byteAt_videoRecord v 6) (by decide)
  needLpb := byteAt_videoRecord v 7
  linesLeft := toNat_of_eq_ofNat (field16_of_bytes (byteAt_videoRecord v 8) (byteAt_videoRecord v 9)) hlines
  ld1 := field16_of_bytes (byteAt_videoRecord v 10) (byteAt_videoRecord v 11)
  ld2 := field16_of_bytes (byteAt_videoRecord v 12) (byteAt_videoRecord v 13)
  displayEn := byteAt_videoRecord v 14
  vsync := byteAt_videoRecord v 15
  border := byteAt_videoRecord v 16
  fixbias := byteAt_videoRecord v 17
  busLast := byteAt_videoRecord v 18
  lineLength := toNat_of_eq_ofNat (field16_of_bytes (byteAt_videoRecord v 19) (byteAt_videoRecord v 20)) hbuf
  lineBuf := by
    have htail : (videoTail v).drop 21 = v.lineBuf := rfl
    rw [videoRecord_eq, ← List.drop_drop (i := 21) (j := 36), List.drop_left' (videoHead_length v), htail]

/-! ## The sound record (R854) -/

/-- A sound record's bytes from offset 20 on, behind the tag and the registers. -/
def soundTail (n : Snd) : List Byte :=
  bytes16 (n.toneCnt[0].setWidth 16) ++ bytes16 (n.toneCnt[1].setWidth 16) ++ bytes16 (n.toneCnt[2].setWidth 16) ++
  [byteOfBool n.toneOut[0], byteOfBool n.toneOut[1], byteOfBool n.toneOut[2], n.noiseCnt] ++
  bytes24 (n.lfsr.setWidth 24) ++ [byteOfBool n.noiseOut, n.envCnt, n.envPos.setWidth 8, byteOfDir n.envDir]

theorem soundRecord_eq (n : Snd) : soundRecord n = versionTag ++ n.reg.toList ++ soundTail n := by
  simp only [soundRecord, soundTail, List.append_assoc]

theorem byteAt_soundRecord (n : Snd) (i : Nat) : byteAt (soundRecord n) (20 + i) = byteAt (soundTail n) i := by
  rw [soundRecord_eq, byteAt_append_add (tagBlock_length n.reg)]

/-- Each field of n stands in d at its offset of R854. -/
structure SoundLayout (n : Snd) (d : List Byte) : Prop where
  length : d.length = 37
  tag : d.take 4 = versionTag
  reg : (d.drop 4).take 16 = n.reg.toList
  tone : ∀ c : Fin 3, (field16 d (20 + 2 * c.val)).toNat = n.toneCnt[c].toNat ∧
    byteAt d (26 + c.val) = byteOfBool n.toneOut[c]
  noiseCnt : byteAt d 29 = n.noiseCnt
  lfsr : (field24 d 30).toNat = n.lfsr.toNat
  noiseOut : byteAt d 33 = byteOfBool n.noiseOut
  envCnt : byteAt d 34 = n.envCnt
  envPos : (byteAt d 35).toNat = n.envPos.toNat
  envDir : byteAt d 36 = byteOfDir n.envDir

/-- A tone counter's field and its output's, channel by channel. -/
theorem soundRecord_tone (n : Snd) (c : Fin 3) :
    field16 (soundRecord n) (20 + 2 * c.val) = n.toneCnt[c].setWidth 16 ∧
    byteAt (soundRecord n) (26 + c.val) = byteOfBool n.toneOut[c] :=
  match c with
  | 0 => ⟨field16_of_bytes (byteAt_soundRecord n 0) (byteAt_soundRecord n 1), byteAt_soundRecord n 6⟩
  | 1 => ⟨field16_of_bytes (byteAt_soundRecord n 2) (byteAt_soundRecord n 3), byteAt_soundRecord n 7⟩
  | 2 => ⟨field16_of_bytes (byteAt_soundRecord n 4) (byteAt_soundRecord n 5), byteAt_soundRecord n 8⟩

theorem soundRecord_layout (n : Snd) : SoundLayout n (soundRecord n) where
  length := by rw [soundRecord_eq, List.length_append, tagBlock_length]; rfl
  tag := rfl
  reg := by rw [soundRecord_eq, take_drop_append versionTag_length Vector.length_toList]
  tone c := ⟨toNat_of_eq_setWidth (soundRecord_tone n c).1 (by decide), (soundRecord_tone n c).2⟩
  noiseCnt := byteAt_soundRecord n 9
  lfsr := toNat_of_eq_setWidth
    (field24_of_bytes (byteAt_soundRecord n 10) (byteAt_soundRecord n 11) (byteAt_soundRecord n 12)) (by decide)
  noiseOut := byteAt_soundRecord n 13
  envCnt := byteAt_soundRecord n 14
  envPos := toNat_of_eq_setWidth (byteAt_soundRecord n 15) (by decide)
  envDir := byteAt_soundRecord n 16

/-! ## The interrupt record (R855) -/

/-- Each field of k stands in d at its offset of R855. -/
structure IntLayout (k : Intr) (d : List Byte) : Prop where
  length : d.length = 15
  tag : d.take 4 = versionTag
  sources : ∀ j : Fin 4, (byteAt d 4).getLsbD (2 * j.val) = k.level[j] ∧
    (byteAt d 4).getLsbD (2 * j.val + 1) = k.latch[j] ∧ (byteAt d 5).getLsbD j.val = k.enable[j]
  spare : (byteAt d 5).toNat < 16
  irq : byteAt d 6 = byteOfBool k.irq
  timerCnt : field32 d 7 = k.timerCnt
  onehzCnt : field32 d 11 = k.onehzCnt

/-- The enable of each source, in the enables byte. -/
theorem enableByte_getLsbD (k : Intr) (j : Fin 4) : k.enableByte.getLsbD j.val = k.enable[j] := by
  simp only [Intr.enableByte, BitVec.getLsbD_append, BitVec.getLsbD_ofBool]
  fin_cases j <;> simp

theorem enableByte_toNat_lt (k : Intr) : k.enableByte.toNat < 16 := by
  have hhigh : (0 : BitVec 4).toNat = 0 := rfl
  rw [Intr.enableByte, BitVec.toNat_append, hhigh, Nat.zero_shiftLeft, Nat.zero_or]
  exact BitVec.isLt _

theorem intRecord_layout (k : Intr) : IntLayout k (intRecord k) where
  length := rfl
  tag := rfl
  sources j := ⟨(status_getLsbD k j).1, (status_getLsbD k j).2, enableByte_getLsbD k j⟩
  spare := enableByte_toNat_lt k
  irq := rfl
  timerCnt := field32_of_bytes rfl rfl rfl rfl
  onehzCnt := field32_of_bytes rfl rfl rfl rfl

/-! ## SNAPSHOT_SAVE (R860) -/

/-- A transaction that answers a record changes nothing else. -/
theorem accept_save {s : State} (f : State → List Byte) (hf : s.clk.faulted = false) :
    accept (fun s => s.setReply (.record (f s))) s = .next { s with reply := .record (f s) } :=
  accept_of_running _ hf

/-- Settles O50: each save answers its record, and each record has the layout of its rule. -/
theorem snapshotSave : Obligations.SnapshotSave := by
  unfold Obligations.SnapshotSave
  intro s hf hbuf hlines
  refine ⟨⟨videoRecord s.vid, accept_save (fun s => videoRecord s.vid) hf, ?video⟩,
    ⟨soundRecord s.snd, accept_save (fun s => soundRecord s.snd) hf, ?sound⟩,
    ⟨intRecord s.intr, accept_save (fun s => intRecord s.intr) hf, ?int⟩⟩
  case video =>
    obtain ⟨hlength, htag, hlpb, hlpbBuf, hlptLo, hlptHi, hlptCur, hline, hslot, hneedLpb, hlinesLeft, hld1, hld2,
      hdisplayEn, hvsync, hborder, hfixbias, hbusLast, hlineLength, hlineBuf⟩ := videoRecord_layout hbuf hlines
    exact ⟨hlength, htag, hlpb, hlpbBuf, hlptLo, hlptHi, hlptCur, hline, hslot, hneedLpb, hlinesLeft, hld1, hld2,
      hdisplayEn, hvsync, hborder, hfixbias, hbusLast, hlineLength, hlineBuf⟩
  case sound =>
    obtain ⟨hlength, htag, hreg, htone, hnoiseCnt, hlfsr, hnoiseOut, henvCnt, henvPos, henvDir⟩ :=
      soundRecord_layout s.snd
    exact ⟨hlength, htag, hreg, htone, hnoiseCnt, hlfsr, hnoiseOut, henvCnt, henvPos, henvDir⟩
  case int =>
    obtain ⟨hlength, htag, hsources, hspare, hirq, htimerCnt, honehzCnt⟩ := intRecord_layout s.intr
    exact ⟨hlength, htag, hsources, hspare, hirq, htimerCnt, honehzCnt⟩

end Sys2Proof.Proofs
end

section
/-! PROOFS. SNAPSHOT_LOAD (46_snapshot.md R861, R862; 60_exceptions.md R902): what a load does, check by check, and the
loads that fail (O52). -/

namespace Sys2Proof.Proofs

open Sys2Proof Sys2Proof.Machine

/-! ## What a load does -/

theorem exec_loadInstr (u : Subsystem) (d : List Byte) {s : State} (hf : s.clk.faulted = false) :
    exec (loadInstr u d) s = .next (snapshotLoad u d s) :=
  match u with
  | .video => accept_of_running (snapshotLoad .video d) hf
  | .sound => accept_of_running (snapshotLoad .sound d) hf
  | .int => accept_of_running (snapshotLoad .int d) hf

/-- A load whose record has a problem. -/
theorem exec_loadInstr_of_problem {u : Subsystem} {d : List Byte} {s : State} {c : SnapshotError}
    (hf : s.clk.faulted = false) (h : loadProblem u d s = some c) :
    exec (loadInstr u d) s = .next (raiseSnapshot u c s) := by
  rw [exec_loadInstr u d hf, snapshotLoad, h]

/-- A load whose record passes every check. -/
theorem exec_loadInstr_of_ok {u : Subsystem} {d : List Byte} {s : State} (hf : s.clk.faulted = false)
    (h : loadProblem u d s = none) : exec (loadInstr u d) s = .next (complete (writeRecord u d s)) := by
  rw [exec_loadInstr u d hf, snapshotLoad, h]

theorem replaceEvents_eq_lineEvents (old new : Intr) : replaceEvents old new = lineEvents old.irq new.irq := by
  unfold replaceEvents lineEvents irqEvent
  cases old.irq <;> cases new.irq <;> rfl

section Failures
variable {d : List Byte} {s : State} {c : SnapshotError} (hf : s.clk.faulted = false)
include hf

theorem loadVideo_fails (h : loadProblem .video d s = some c) :
    exec (.snapshotLoadVideo d) s = .next { s with vid := Vid.reset, reply := .snapshotError .video c } :=
  exec_loadInstr_of_problem hf h

theorem loadSound_fails (h : loadProblem .sound d s = some c) :
    exec (.snapshotLoadSound d) s = .next { s with snd := Snd.reset, reply := .snapshotError .sound c } :=
  exec_loadInstr_of_problem hf h

theorem loadInt_fails (h : loadProblem .int d s = some c) :
    exec (.snapshotLoadInt d) s = .next { s with
      intr := Intr.reset, trace := s.trace ++ lineEvents s.intr.irq false, reply := .snapshotError .int c } := by
  refine (exec_loadInstr_of_problem hf h).trans ?_
  rw [raiseSnapshot, resetSubsystem, replaceIntr_eq, replaceEvents_eq_lineEvents]
  rfl

end Failures

/-! ## The checks of R861, in their order -/

section Checks
variable {d : List Byte} (u : Subsystem) (s : State)

theorem loadProblem_of_no_tag (h : d.length < 4) : loadProblem u d s = some .sf1 := if_pos h

theorem loadProblem_of_other_tag (h4 : 4 ≤ d.length) (h : d.take 4 ≠ versionTag) : loadProblem u d s = some .sf2 := by
  rw [loadProblem, if_neg (by omega), if_pos h]

/-- A record with the tag is as long as the tag. -/
theorem four_le_length_of_tagged (h : d.take 4 = versionTag) : 4 ≤ d.length := by
  have hlength := congrArg List.length h
  rw [List.length_take, versionTag_length] at hlength
  omega

/-- Behind the tag, the lengths are checked before the fields. -/
theorem loadProblem_of_tagged (h : d.take 4 = versionTag) :
    loadProblem u d s =
      if tooShort u d = true ∨ d.length < expectedLength u d then some .sf1
      else if expectedLength u d < d.length then some .sf3
      else (recordBroken u d s).map .sf4 := by
  have h4 := four_le_length_of_tagged h
  rw [loadProblem, if_neg (by omega), if_neg (not_not_intro h), ite_or]

theorem loadProblem_of_truncated (h : d.take 4 = versionTag)
    (hlen : tooShort u d = true ∨ d.length < expectedLength u d) :
    loadProblem u d s = some .sf1 := by
  rw [loadProblem_of_tagged u s h, if_pos hlen]

theorem loadProblem_of_trailing (h : d.take 4 = versionTag) (hfull : tooShort u d = false)
    (hlen : expectedLength u d < d.length) : loadProblem u d s = some .sf3 := by
  rw [loadProblem_of_tagged u s h, if_neg (not_or.mpr ⟨Bool.eq_false_iff.mp hfull, by omega⟩), if_pos hlen]

/-- A record of the length it declares has no problem but what its fields have. -/
theorem loadProblem_of_length (h : d.take 4 = versionTag) (hfull : tooShort u d = false)
    (hlen : d.length = expectedLength u d) : loadProblem u d s = (recordBroken u d s).map .sf4 := by
  rw [loadProblem_of_tagged u s h, if_neg (not_or.mpr ⟨Bool.eq_false_iff.mp hfull, by omega⟩), if_neg (by omega)]

theorem loadProblem_of_broken {c : RecordCheck} (h : d.take 4 = versionTag) (hfull : tooShort u d = false)
    (hlen : d.length = expectedLength u d) (hbroken : recordBroken u d s = some c) :
    loadProblem u d s = some (.sf4 c) := by
  rw [loadProblem_of_length u s h hfull hlen, hbroken]; rfl

theorem loadProblem_of_consistent (h : d.take 4 = versionTag) (hfull : tooShort u d = false)
    (hlen : d.length = expectedLength u d) (hok : recordBroken u d s = none) : loadProblem u d s = none := by
  rw [loadProblem_of_length u s h hfull hlen, hok]; rfl

theorem tooShort_video_of_le (h : 57 ≤ d.length) : tooShort .video d = false := decide_eq_false (by omega)

end Checks

/-- Settles O52: each clause is a check of R861, and a failed check of a subsystem is its reset. -/
theorem snapshotLoadFails : Obligations.SnapshotLoadFails := by
  unfold Obligations.SnapshotLoadFails
  intro s d hf tagged vLen failsV failsS failsI
  refine ⟨fun hshort => ?noTag, fun h4 htag => ?otherTag, fun _ htag hlen => ?videoShort,
    fun _ htag hlen => ?soundShort, fun _ htag hlen => ?intShort, fun htag hfull hlen => ?videoLong,
    fun htag hlen => ?soundLong, fun htag hlen => ?intLong, fun c htag hfull hlen hbroken => ?videoBroken,
    fun c htag hlen hbroken => ?soundBroken, fun c htag hlen hbroken => ?intBroken⟩
  case noTag =>
    have hproblem (u : Subsystem) := loadProblem_of_no_tag u s hshort
    exact ⟨loadVideo_fails hf (hproblem .video), loadSound_fails hf (hproblem .sound), loadInt_fails hf (hproblem .int)⟩
  case otherTag =>
    have hproblem (u : Subsystem) := loadProblem_of_other_tag u s h4 htag
    exact ⟨loadVideo_fails hf (hproblem .video), loadSound_fails hf (hproblem .sound), loadInt_fails hf (hproblem .int)⟩
  case videoShort =>
    exact loadVideo_fails hf (loadProblem_of_truncated .video s htag (hlen.imp_left (decide_eq_true ·)))
  case soundShort => exact loadSound_fails hf (loadProblem_of_truncated .sound s htag (.inr hlen))
  case intShort => exact loadInt_fails hf (loadProblem_of_truncated .int s htag (.inr hlen))
  case videoLong => exact loadVideo_fails hf (loadProblem_of_trailing .video s htag (tooShort_video_of_le hfull) hlen)
  case soundLong => exact loadSound_fails hf (loadProblem_of_trailing .sound s htag rfl hlen)
  case intLong => exact loadInt_fails hf (loadProblem_of_trailing .int s htag rfl hlen)
  case videoBroken =>
    exact loadVideo_fails hf (loadProblem_of_broken .video s htag (tooShort_video_of_le hfull) hlen hbroken)
  case soundBroken => exact loadSound_fails hf (loadProblem_of_broken .sound s htag rfl hlen hbroken)
  case intBroken => exact loadInt_fails hf (loadProblem_of_broken .int s htag rfl hlen hbroken)

end Sys2Proof.Proofs
end

section
/-! PROOFS. The round trip (46_snapshot.md R861, R863; O51): the fields of a saved unit's record give the unit back
(R853 to R855), and a unit that meets its invariant passes the checks (R856, R857, R859). -/

namespace Sys2Proof.Proofs

open Sys2Proof Sys2Proof.Machine

/-! ## Fields read back -/

theorem isBoolByte_byteOfBool (b : Bool) : isBoolByte (byteOfBool b) = true := by cases b <;> rfl

theorem byteOfBool_eq_one (b : Bool) : decide (byteOfBool b = 1) = b := by cases b <;> rfl

theorem byteOfBool_eq_zero (b : Bool) : decide (byteOfBool b = 0) = !b := by cases b <;> rfl

/-- The direction that a load reads from a direction's byte (R854). -/
theorem byteOfDir_readBack (d : Dir) :
    (if byteOfDir d = 0xFF then Dir.down else if byteOfDir d = 0 then .still else .up) = d := by cases d <;> rfl

theorem isDirByte_byteOfDir (d : Dir) :
    (byteOfDir d = 0xFF || byteOfDir d = 0 || byteOfDir d = 1) = true := by cases d <;> rfl

/-- A field of a record that holds an n-bit number, cut to n bits. -/
theorem setWidth_of_toNat_eq {m n : Nat} {x : BitVec m} {y : BitVec n} (h : x.toNat = y.toNat) : x.setWidth n = y :=
  BitVec.eq_of_toNat_eq (by rw [BitVec.toNat_setWidth, h, Nat.mod_eq_of_lt y.isLt])

/-- Sixteen bytes that are those of a vector are read as that vector. -/
theorem field16x8_of_take_drop {d : List Byte} {i : Nat} {x : Vector Byte 16}
    (h : (d.drop i).take 16 = x.toList) : field16x8 d i = x := by
  refine Vector.ext fun j hj => ?_
  have hget : d[i + j]? = some x[j] := by
    have hat := congrArg (·[j]?) h
    simpa [List.getElem?_take, hj] using hat
  simp [field16x8, byteAt, hget]

theorem vector_eq_of_three {α : Type} {x : Vector α 3} {a b c : α} (ha : a = x[0]) (hb : b = x[1])
    (hc : c = x[2]) : #v[a, b, c] = x := by
  subst ha hb hc
  refine Vector.ext fun i hi => ?_
  match i with
  | 0 | 1 | 2 => rfl

theorem vector_ofFn_eq {α : Type} {n : Nat} {x : Vector α n} {f : Fin n → α} (h : ∀ j : Fin n, f j = x[j]) :
    Vector.ofFn f = x :=
  Vector.ext fun j hj => (Vector.getElem_ofFn hj).trans (h ⟨j, hj⟩)

/-! ## The video unit (R853, R856) -/

/-- n pixel groups of at most 17 bytes each. -/
theorem length_le_of_areGroups {n : Nat} {bs : List Byte} (h : areGroups n bs = true) : bs.length ≤ 17 * n := by
  induction n generalizing bs with
  | zero => simpa [areGroups] using h
  | succ n ih =>
    cases bs with
    | nil => exact Nat.zero_le _
    | cons t rest =>
      rw [areGroups, Bool.and_eq_true, Bool.and_eq_true, isTag_iff] at h
      obtain ⟨⟨htag, -⟩, hrest⟩ := h
      have htag16 : t.toNat ≤ 16 := by rcases htag with rfl | rfl | rfl | rfl | rfl <;> decide
      have hdrop := ih hrest
      rw [List.length_drop] at hdrop
      rw [List.length_cons]
      omega

/-- A video unit that meets the invariant fits its record (R541). -/
theorem videoRecord_layout_of_videoInv {s : State} (h : VideoInv s) : VideoLayout s.vid (videoRecord s.vid) := by
  have hgroups := length_le_of_areGroups h.groups
  have hslot := s.vid.slot.isLt
  have hlines := h.lines
  exact videoRecord_layout (by omega) (by omega)

theorem VideoLayout.videoFields_eq {v : Vid} {d : List Byte} (h : VideoLayout v d)
    (hbase : v.lptBase = lptBaseOf v.lptHi v.lptLo) : videoFields d = v := by
  rw [videoFields, h.lptLo, h.lptHi, h.lptCur, h.line, h.needLpb, h.linesLeft, h.ld1, h.ld2, h.displayEn,
    h.vsync, h.border, h.fixbias, h.busLast, h.lineBuf, setWidth_of_toNat_eq h.slot, field16x8_of_take_drop h.lpb,
    field16x8_of_take_drop h.lpbBuf, byteOfBool_eq_one, byteOfBool_eq_one, byteOfBool_eq_one, ← hbase]

theorem VideoLayout.videoBroken_eq_none {s : State} {d : List Byte} (h : VideoLayout s.vid d) (hinv : VideoInv s) :
    videoBroken s.params d = none := by
  refine (firstBroken_none_iff _).mpr ?_
  simp only [h.slot, h.needLpb, h.displayEn, h.vsync, h.linesLeft, h.lineBuf, isBoolByte_byteOfBool,
    byteOfBool_eq_one, byteOfBool_eq_zero, List.forall_mem_cons, Bool.and_eq_true, Bool.or_eq_true,
    decide_eq_true_eq, Bool.not_eq_true']
  refine ⟨hinv.slot, ⟨⟨trivial, trivial⟩, trivial⟩, hinv.lines, ⟨hinv.block, ?fetching⟩, hinv.groups, ?display,
    List.forall_mem_nil _⟩
  case fetching => exact (Bool.eq_false_or_eq_true _).symm.imp_right hinv.fetching
  case display =>
    by_cases hleft : 1 ≤ s.vid.slot.toNat ∧ s.vid.slot.toNat ≤ 8
    · exact .inr (hinv.display hleft.1 hleft.2)
    · exact .inl (by simpa using hleft)

/-! ## The sound unit (R854, R857) -/

theorem SoundLayout.soundFields_eq {n : Snd} {d : List Byte} (h : SoundLayout n d) : soundFields d = n := by
  have hcnt (c : Fin 3) := setWidth_of_toNat_eq (h.tone c).1
  have hout (c : Fin 3) : decide (byteAt d (26 + c.val) = 1) = n.toneOut[c] := by
    rw [(h.tone c).2, byteOfBool_eq_one]
  have hcnts : #v[(field16 d 20).setWidth 12, (field16 d 22).setWidth 12, (field16 d 24).setWidth 12] = n.toneCnt :=
    vector_eq_of_three (hcnt 0) (hcnt 1) (hcnt 2)
  have houts : #v[decide (byteAt d 26 = 1), decide (byteAt d 27 = 1), decide (byteAt d 28 = 1)] = n.toneOut :=
    vector_eq_of_three (hout 0) (hout 1) (hout 2)
  rw [soundFields, field16x8_of_take_drop h.reg, hcnts, houts, h.noiseCnt, setWidth_of_toNat_eq h.lfsr,
    h.noiseOut, byteOfBool_eq_one, h.envCnt, setWidth_of_toNat_eq h.envPos, h.envDir, byteOfDir_readBack]

theorem SoundLayout.soundBroken_eq_none {s : State} {d : List Byte} (h : SoundLayout s.snd d) (hinv : NoiseInv s) :
    soundBroken d = none := by
  have hwidth : recordWidth d = s.snd.width := by
    rw [← h.soundFields_eq]
    simp [soundFields, Snd.width, Snd.nw, recordWidth, field16x8]
  have hlow : 1 ≤ s.snd.lfsr.toNat := Nat.pos_of_ne_zero fun h0 => hinv.nonzero (BitVec.eq_of_toNat_eq h0)
  have hpos := s.snd.envPos.isLt
  have htone (c : Fin 3) : (field16 d (20 + 2 * c.val)).toNat ≤ 4095 := by
    have hlt := s.snd.toneCnt[c].isLt
    rw [(h.tone c).1]; omega
  have hout (c : Fin 3) : isBoolByte (byteAt d (26 + c.val)) = true := by
    rw [(h.tone c).2]; exact isBoolByte_byteOfBool _
  refine (firstBroken_none_iff _).mpr ?_
  simp only [h.lfsr, h.noiseOut, h.envPos, h.envDir, hwidth, isBoolByte_byteOfBool, isDirByte_byteOfDir,
    List.forall_mem_cons, Bool.and_eq_true, decide_eq_true_eq]
  exact ⟨⟨⟨htone 0, htone 1⟩, htone 2⟩, ⟨⟨⟨hout 0, hout 1⟩, hout 2⟩, trivial⟩, ⟨hlow, hinv.width⟩,
    Nat.le_of_lt_succ hpos, trivial, List.forall_mem_nil _⟩

/-! ## The interrupt unit (R855, R859) -/

theorem IntLayout.intFields_eq {k : Intr} {d : List Byte} (h : IntLayout k d) : intFields d = k := by
  have hlevel := vector_ofFn_eq fun j => (h.sources j).1
  have hlatch := vector_ofFn_eq fun j => (h.sources j).2.1
  have henable := vector_ofFn_eq fun j => (h.sources j).2.2
  rw [intFields, hlevel, hlatch, henable, h.irq, byteOfBool_eq_one, h.timerCnt, h.onehzCnt]

/-- A unit that meets the invariant passes every check but perhaps (e), that of the 1 Hz count (log 12). -/
theorem IntLayout.intBroken_eq {s : State} {d : List Byte} (h : IntLayout s.intr d) (hinv : IrqInv s) :
    intBroken s.params s.clk d =
      if s.intr.onehzCnt.toNat < s.clk.onehzHalf.toNat then none else some .r859e := by
  have hspare : (byteAt d 5).extractLsb' 4 4 = 0 := by
    refine BitVec.eq_of_toNat_eq ?_
    rw [BitVec.extractLsb'_toNat, Nat.shiftRight_eq_div_pow, Nat.div_eq_of_lt h.spare]; rfl
  have hline : s.intr.irq = s.intr.wanted := hinv.line
  rw [intBroken, hspare, h.intFields_eq, h.irq, isBoolByte_byteOfBool, h.timerCnt, h.onehzCnt,
    decide_eq_true hinv.timer, decide_eq_true hline]
  by_cases hcnt : s.intr.onehzCnt.toNat < s.clk.onehzHalf.toNat
  · rw [if_pos hcnt, decide_eq_true hcnt]; rfl
  · rw [if_neg hcnt, decide_eq_false hcnt]; rfl

/-! ## Loads of a saved unit -/

/-- Settles O51: a saved record's fields are the unit's, and the invariant of each unit is what its checks ask. -/
theorem snapshotRoundTrip : Obligations.SnapshotRoundTrip := by
  unfold Obligations.SnapshotRoundTrip
  intro s v n k hf _
  refine ⟨fun hinv => ?video, fun hinv => ?sound, fun hinv hcnt => ?int, fun hinv hcnt => ?intPast⟩
  case video =>
    have hlayout := videoRecord_layout_of_videoInv hinv
    have hfull : 57 ≤ (videoRecord v).length := by rw [hlayout.length]; exact Nat.le_add_right _ _
    have hlen : (videoRecord v).length = expectedLength .video (videoRecord v) := by
      rw [hlayout.length, expectedLength, hlayout.lineLength]
    have hproblem := loadProblem_of_consistent .video s hlayout.tag (tooShort_video_of_le hfull) hlen
      (hlayout.videoBroken_eq_none hinv)
    refine (exec_loadInstr_of_ok hf hproblem).trans ?_
    rw [writeRecord, hlayout.videoFields_eq hinv.base]
    exact congrArg _ (complete_of_running hf)
  case sound =>
    have hlayout := soundRecord_layout n
    have hproblem := loadProblem_of_consistent .sound s hlayout.tag rfl hlayout.length
      (hlayout.soundBroken_eq_none hinv)
    refine (exec_loadInstr_of_ok hf hproblem).trans ?_
    rw [writeRecord, hlayout.soundFields_eq]
    exact congrArg _ (complete_of_running hf)
  case int =>
    have hlayout := intRecord_layout k
    have hproblem := loadProblem_of_consistent .int s hlayout.tag rfl hlayout.length
      ((hlayout.intBroken_eq hinv).trans (if_pos hcnt))
    refine (exec_loadInstr_of_ok hf hproblem).trans ?_
    rw [writeRecord, hlayout.intFields_eq, replaceIntr_eq, replaceEvents_eq_lineEvents]
    exact congrArg _ (complete_of_running hf)
  case intPast =>
    have hlayout := intRecord_layout k
    exact loadInt_fails hf (loadProblem_of_broken .int s hlayout.tag rfl hlayout.length
      ((hlayout.intBroken_eq hinv).trans (if_neg (Nat.not_lt.mpr hcnt))))

end Sys2Proof.Proofs
end

section
/-! PROOFS. Statements of 60_exceptions.md on the outcomes of a transaction: every one that is neither RESET nor a renderer
is refused in a faulted block and ends as R900 has it in any other (R904, R905, R909; O7, O8). -/

namespace Sys2Proof.Proofs

open Sys2Proof Sys2Proof.Machine

/-! ## The outcomes of R900 -/

/-- The ways instruction i, run in s, can end in t: an outcome of R900 with the state afterwards, or a slot step's wait. -/
inductive Ends (i : Instr) (s t : State) : Prop where
  | waits (hslot : i = .slotStep) (hreply : t.reply = .pending) (hopen : t.slotOpen = true)
      (hrun : t.clk.faulted = false)
  | completes (hreply : t.reply = .completed) (hrun : t.clk.faulted = false)
  | answers (b : Byte) (ht : t = s.setReply (.byte b))
      (hi : (∃ off, i = portReadInstr off) ∨
        ∃ a port, i ∈ [Instr.waitQueryFetch a, .waitQueryRead a, .waitQueryWrite a, .waitQueryIo port])
  | saves (d : List Byte) (ht : t = s.setReply (.record d))
      (hi : i ∈ [Instr.snapshotSaveVideo, .snapshotSaveSound, .snapshotSaveInt])
  | configFails (c : ConfigError) (ht : t = raiseConfig c s) (hi : ∃ m a b f n, i = .configure m a b f n)
  | loadFails (u : Subsystem) (c : SnapshotError) (ht : t = raiseSnapshot u c s) (hi : ∃ d, i = loadInstr u d)
  | stops (a : Accumulator) (hreply : t.reply = .fatal a) (hbefore : s.clk.faulted = false)
      (hfault : t.clk.faulted = true)
  | refused (r : RefuseReason) (ht : t = refuse r s)

/-- What has told its host of any FatalAssertion completes, or has stopped. -/
theorem Ends.of_complete {i : Instr} {s t : State} (hf : s.clk.faulted = false) (hfatal : FatalTold t) :
    Ends i s (complete t) := by
  cases hfault : t.clk.faulted with
  | false => rw [complete_of_running hfault]; exact .completes rfl hfault
  | true =>
    obtain ⟨a, ha⟩ := hfatal hfault
    rw [complete_of_faulted hfault]
    exact .stops a ha hf hfault

/-! ## Slot steps (R402, R903) -/

theorem cpuTurn_faulted_of_stopped {s : State} (h : (cpuTurn s).1 = .stopped) :
    (cpuTurn s).2.clk.faulted = true := by
  cases hf : s.clk.faulted with
  | true => rw [cpuTurn_of_faulted hf]; exact hf
  | false =>
    obtain ⟨hturn, -⟩ := cpuDue_running ((faulted_of_sched_eq (sched_releaseHeld s)).trans hf)
    rw [cpuTurn_of_running hf] at h
    exact absurd h hturn

/-- Nothing but a FatalAssertion stops CpuRun. -/
theorem cpuRun_faulted_of_stopped (q : List CpuInput) {s : State} (h : (cpuRun q s).1 = .stopped) :
    (cpuRun q s).2.clk.faulted = true := by
  induction q generalizing s with
  | nil => exact cpuTurn_faulted_of_stopped (s := s) h
  | cons i q ih =>
    rcases hend : cpuTurn s with ⟨turn, t⟩
    cases turn with
    | wants => rw [cpuRun_cons_of_wants i q hend] at h ⊢; exact ih h
    | done => rw [cpuRun_of_done _ hend] at h; cases h
    | stopped =>
      have hfault := cpuTurn_faulted_of_stopped (s := s) (by rw [hend])
      rw [hend] at hfault
      rw [cpuRun_of_stopped _ hend]; exact hfault

/-- A slot step ends as its CPU work ended: completed, stopped by a FatalAssertion, or waiting. -/
theorem slotFinish_ends {s : State} {x : Turn × State} (hf : s.clk.faulted = false) (hturn : TurnEnd x)
    (hfaulted : x.1 = .stopped → x.2.clk.faulted = true) : Ends .slotStep s (slotFinish x) := by
  obtain ⟨turn, w⟩ := x
  cases turn with
  | done =>
    have hadvance : (videoAdvance (w.setSlotOpen false)).clk.faulted = false :=
      (faulted_of_sched_eq (sched_videoAdvance _)).trans (hturn.running nofun)
    exact .of_complete hf (fatalTold_of_running hadvance)
  | stopped =>
    obtain ⟨a, ha⟩ := hturn.stopped rfl
    exact .stops a ha hf (hfaulted rfl)
  | wants => exact .waits rfl rfl rfl (hturn.running nofun)

theorem slotRun_ends {s b : State} (hf : s.clk.faulted = false) (hb : b.clk.faulted = false) :
    Ends .slotStep s (slotRun b) :=
  slotFinish_ends hf (cpuRun_runEnd b.cpuIn (fatalTold_of_running hb)).toTurnEnd (cpuRun_faulted_of_stopped b.cpuIn)

theorem slotStep_ends {s : State} (hf : s.clk.faulted = false) : Ends .slotStep s (slotStep s) := by
  obtain ⟨b, -, ⟨a, hstep⟩ | ⟨hb, hstep⟩⟩ := slotStep_spec hf <;> rw [hstep]
  · exact .stops a rfl hf rfl
  · exact slotRun_ends hf hb

/-! ## Acceptance (R904 (b) and (d), R905) -/

/-- A transaction that a faulted block refuses, and that any other block ends as R900 has it. -/
def Accepted (i : Instr) : Prop :=
  ∃ f, ∀ s, exec i s = accept f s ∧ (s.clk.faulted = false → Ends i s (f s))

section Kinds

variable {i : Instr} {f : State → State}

theorem accepted_of_accept (hexec : ∀ s, exec i s = accept f s)
    (hends : ∀ s, s.clk.faulted = false → Ends i s (f s)) : Accepted i :=
  ⟨f, fun s => ⟨hexec s, hends s⟩⟩

theorem accepted_of_acceptConfigured (hexec : ∀ s, exec i s = acceptConfigured f s)
    (hends : ∀ s, s.clk.faulted = false → Ends i s (f s)) : Accepted i := by
  refine accepted_of_accept hexec fun s hf => ?_
  split
  · exact hends s hf
  · exact .refused .notConfigured rfl

/-- A transaction that leaves the scheduler's part of the state completes. -/
theorem accepted_of_perform (hexec : ∀ s, exec i s = perform f s) (hkeep : ∀ s, sched (f s) = sched s) :
    Accepted i :=
  accepted_of_accept hexec fun s hf =>
    .of_complete hf (fatalTold_of_running ((faulted_of_sched_eq (hkeep s)).trans hf))

/-- A CPU event of the host, after the start of its instruction. -/
theorem accepted_of_hostEvent (hexec : ∀ s, exec i s = acceptConfigured (fun s => complete (f (ensureInstr s))) s)
    (hfatal : ∀ s, s.clk.faulted = false → FatalTold (f s)) : Accepted i :=
  accepted_of_acceptConfigured hexec fun s hf => .of_complete hf (hfatal _ ((ensureInstr_faulted s).trans hf))

theorem accepted_of_waitQuery {k : AccessKind} {w : Half} (hexec : ∀ s, exec i s = Machine.waitQuery k w s) (a : Half)
    (port : Byte) (hi : i ∈ [Instr.waitQueryFetch a, .waitQueryRead a, .waitQueryWrite a, .waitQueryIo port]) :
    Accepted i :=
  accepted_of_acceptConfigured hexec fun _ _ => .answers _ rfl (.inr ⟨a, port, hi⟩)

theorem accepted_of_save {r : State → List Byte} (hexec : ∀ s, exec i s = accept (fun s => s.setReply (.record (r s))) s)
    (hi : i ∈ [Instr.snapshotSaveVideo, .snapshotSaveSound, .snapshotSaveInt]) : Accepted i :=
  accepted_of_accept hexec fun _ _ => .saves _ rfl hi

/-- The port offset in an encoded instruction's header (30_encoding.md R300). -/
def headerPort (i : Instr) : BitVec 5 :=
  match encode i with
  | .packet p => p.header.extractLsb' 8 5
  | .key _ => 0

theorem accepted_of_portRead (hi : portReadInstr (headerPort i) = i) : Accepted i :=
  accepted_of_accept (fun s => by rw [← hi, exec_portReadInstr]; rfl) fun _ _ => .answers _ rfl (.inl ⟨_, hi.symm⟩)

end Kinds

theorem accepted_loadInstr (u : Subsystem) (d : List Byte) : Accepted (loadInstr u d) := by
  refine accepted_of_accept (f := snapshotLoad u d) (fun s => by cases u <;> rfl) fun s hf => ?_
  rcases snapshotLoad_spec u d s with ⟨c, -, hload⟩ | ⟨-, hload⟩ <;> rw [hload]
  · exact .loadFails u c rfl ⟨d, rfl⟩
  · exact .of_complete hf (fatalTold_of_running ((faulted_of_sched_eq (sched_writeRecord u d s)).trans hf))

theorem accepted_configure (m : Byte) (fCpu fSlot fSnd : Word32) (nwait : Byte) :
    Accepted (.configure m fCpu fSlot fSnd nwait) := by
  refine accepted_of_accept (fun _ => rfl) fun s hf => ?_
  unfold Machine.configure
  split
  case h_1 c _ => exact .configFails c rfl ⟨_, _, _, _, _, rfl⟩
  case h_2 => exact .of_complete hf (fatalTold_of_running hf)

theorem accepted_cpuEnd : Accepted .cpuEnd := by
  refine accepted_of_acceptConfigured (fun _ => rfl) fun s hf => ?_
  split
  · exact .refused .zeroCycles rfl
  · exact .of_complete hf (fatalTold_of_running ((ensureInstr_faulted s).trans hf))

/-- Every transaction but RESET, by its kind: SLOT_STEP and CONFIGURE; the CPU events; the changes of the other units; the
register writes and reads; the saves, loads and queries. -/
theorem accepted_of_packet {i : Instr} {p : Packet} (hpacket : encode i = .packet p) (hreset : i ≠ .reset) :
    Accepted i := by
  cases i
  case reset => exact absurd rfl hreset
  case slotStep => exact accepted_of_acceptConfigured (fun _ => rfl) fun _ => slotStep_ends
  case configure => exact accepted_configure _ _ _ _ _
  case cpuCycles n => exact accepted_of_hostEvent (f := cpuCycles n) (fun _ => rfl) fun _ => fatalTold_charge n
  case cpuMemFetch a => exact accepted_of_hostEvent (f := cpuMem .fetch a) (fun _ => rfl) fun _ => fatalTold_charge _
  case cpuMemRead a => exact accepted_of_hostEvent (f := cpuMem .read a) (fun _ => rfl) fun _ => fatalTold_charge _
  case cpuMemWrite a => exact accepted_of_hostEvent (f := cpuMem .write a) (fun _ => rfl) fun _ => fatalTold_charge _
  case cpuIoRead | cpuIoWrite => exact accepted_of_hostEvent (fun _ => rfl) fun _ => fatalTold_cpuIo _
  case cpuEnd => exact accepted_cpuEnd
  case soundTick => exact accepted_of_perform (fun _ => rfl) sched_soundTick
  case videoSlot => exact accepted_of_perform (fun _ => rfl) sched_videoSlot
  case ext2 level => exact accepted_of_perform (fun _ => rfl) (sched_ext2 level)
  case pwIntCtrl v => exact accepted_of_perform (fun _ => rfl) (sched_intCtrl v)
  case pwSndR0 | pwSndR1 | pwSndR2 | pwSndR3 | pwSndR4 | pwSndR5 | pwSndR6 | pwSndR7 | pwSndR8 | pwSndR9 | pwSndR10 |
    pwSndR11 | pwSndR12 | pwSndR13 | pwSndR14 | pwSndR15 =>
    exact accepted_of_perform (fun _ => rfl) fun s => sched_setSnd s _
  case pwFixbias | pwBorder | pwLptLo | pwLptHi => exact accepted_of_perform (fun _ => rfl) fun s => sched_setVid s _
  case pwReserved11 | pwReserved12 | pwReserved13 | pwReserved14 | pwReserved15 | pwReserved16 | pwReserved17 |
    pwReserved1C | pwReserved1D | pwReserved1E | pwReserved1F =>
    exact accepted_of_perform (fun _ => rfl) fun _ => rfl
  case prSndR0 | prSndR1 | prSndR2 | prSndR3 | prSndR4 | prSndR5 | prSndR6 | prSndR7 | prSndR8 | prSndR9 | prSndR10 |
    prSndR11 | prSndR12 | prSndR13 | prSndR14 | prSndR15 | prIntStatus | prFixbias | prBorder | prLptLo | prLptHi |
    prReserved11 | prReserved12 | prReserved13 | prReserved14 | prReserved15 | prReserved16 | prReserved17 |
    prReserved1C | prReserved1D | prReserved1E | prReserved1F => exact accepted_of_portRead rfl
  case snapshotSaveVideo | snapshotSaveSound | snapshotSaveInt => exact accepted_of_save (fun _ => rfl) (by simp)
  case snapshotLoadVideo d => exact accepted_loadInstr .video d
  case snapshotLoadSound d => exact accepted_loadInstr .sound d
  case snapshotLoadInt d => exact accepted_loadInstr .int d
  case waitQueryFetch a | waitQueryRead a | waitQueryWrite a =>
    exact accepted_of_waitQuery (fun _ => rfl) a 0 (by simp)
  case waitQueryIo port => exact accepted_of_waitQuery (fun _ => rfl) 0 port (by simp)
  all_goals cases hpacket

theorem accepted_of_transaction {i : Instr} (hreset : i ≠ .reset) (hrow : ∀ r : Renderer, i ≠ r.instr) :
    Accepted i := by
  cases hcode : encode i with
  | packet p => exact accepted_of_packet hcode hreset
  | key k =>
    obtain ⟨r, hr⟩ := eq_renderer_of_encode_key hcode
    exact absurd hr (hrow r)

/-! ## Refusals (R904, R905) -/

/-- The transactions that need a configured block (R904 (b)). -/
theorem exists_exec_eq_acceptConfigured (n port data : Byte) (a : Half) :
    ∀ i ∈ [Instr.slotStep, .cpuCycles n, .cpuMemFetch a, .cpuMemRead a, .cpuMemWrite a, .cpuIoRead port,
        .cpuIoWrite port data, .cpuEnd, .waitQueryFetch a, .waitQueryRead a, .waitQueryWrite a, .waitQueryIo port],
      ∃ f, ∀ s, exec i s = acceptConfigured f s := by
  simp only [List.forall_mem_cons]
  refine ⟨?_, ?_, ?_, ?_, ?_, ?_, ?_, ?_, ?_, ?_, ?_, ?_, nofun⟩ <;> exact ⟨_, fun _ => rfl⟩

/-- Settles O7: acceptance tests the fault first, and then the configuration where the transaction needs one. -/
theorem refusedStates : Obligations.RefusedStates := by
  unfold Obligations.RefusedStates
  refine ⟨fun i s hfault hreset hrow => ?faulted, fun s n port data a hf hc i hi => ?unconfigured⟩
  case faulted =>
    obtain ⟨f, hf⟩ := accepted_of_transaction hreset hrow
    obtain ⟨hexec, -⟩ := hf s
    rw [hexec, accept_of_faulted f hfault, refuse_eq]
  case unconfigured =>
    obtain ⟨f, hexec⟩ := exists_exec_eq_acceptConfigured n port data a i hi
    rw [hexec, acceptConfigured_of_unconfigured f hf hc, refuse_eq]

/-! ## Outcomes (R900, R909) -/

/-- RESET completes in every block; any other transaction is refused in a faulted one. -/
theorem exec_ends {i : Instr} (s : State) (hrow : ∀ r : Renderer, i ≠ r.instr) :
    ∃ t, exec i s = .next t ∧ Ends i s t := by
  by_cases hreset : i = .reset
  · subst hreset
    exact ⟨_, exec_reset s, .completes rfl rfl⟩
  obtain ⟨f, hf⟩ := accepted_of_transaction hreset hrow
  obtain ⟨hexec, hends⟩ := hf s
  cases hfault : s.clk.faulted with
  | true => exact ⟨_, hexec.trans (accept_of_faulted f hfault), .refused .faulted rfl⟩
  | false => exact ⟨_, hexec.trans (accept_of_running f hfault), hends hfault⟩

/-- Settles O8: each way to end has the reply and the state afterwards of its row. -/
theorem outcomeTable : Obligations.OutcomeTable := by
  unfold Obligations.OutcomeTable
  intro i s hrow
  obtain ⟨t, hexec, hends⟩ := exec_ends s hrow
  refine ⟨t, hexec, ?_⟩
  cases hends with
  | waits hslot hreply hopen hrun => rw [hreply]; exact ⟨hslot, hopen, hrun⟩
  | completes hreply hrun => rw [hreply]; exact hrun
  | answers b ht hi => subst ht; exact ⟨rfl, hi⟩
  | saves d ht hi => subst ht; exact ⟨rfl, hi⟩
  | configFails c ht hi => subst ht; exact ⟨rfl, hi⟩
  | loadFails u c ht hi => subst ht; exact ⟨rfl, hi⟩
  | stops a hreply hbefore hfault => rw [hreply]; exact ⟨hbefore, hfault⟩
  | refused r ht => subst ht; exact refuse_eq r s

end Sys2Proof.Proofs
end

section
/-! PROOFS. Statements of 70_reset_and_hazards.md: RESET in every state, the reset columns written out (R1000; O53). -/

namespace Sys2Proof.Proofs

open Sys2Proof Sys2Proof.Machine

/-- Settles O53: exec_reset names the four units' reset values; what is left are their columns (R102, R110, R120, R130),
with each vector's equal entries listed one by one. -/
theorem reset : Obligations.Reset := by
  unfold Obligations.Reset
  intro s
  rw [exec_reset, Clk.reset, Vid.reset, Snd.reset, Intr.reset]
  rfl

end Sys2Proof.Proofs
end
